-- ==== Sys2Proof/Word.lean ====
section
/-! DEFINITION. The word types of the block RSR-SOD: the 16-bit state word, the 8-bit command word, and a
16-bit word whose single bits may have no value (the receiver's stages). -/

namespace Sys2Proof

/-- A 16-bit unsigned word; bit 0 is the least significant (00_scope.md R5, R11). -/
abbrev Word := BitVec 16

/-- A command word: every command is one 8-bit word (30_encoding.md R70). -/
abbrev Command := BitVec 8

/-- Sixteen bits, each of which has a value or has none. The receiver's stages need it: at power-on every bit of
SR has no value, and after k shifts exactly k bits have one (10_state.md R42, R47; 95_test_vectors.md V-W3).
Index k is bit k. -/
abbrev XWord := Vector (Option Bool) 16

/-- No bit has a value: SR and OUT at power-on (10_state.md R42, R44). -/
def XWord.noValue : XWord := Vector.replicate 16 none

end Sys2Proof
end

