-- ==== Sys2Proof/Machine/Sequencer.lean ====
section
/-! DEFINITION. The driver sequencer DRV, which stands where a program counter would (10_state.md R24, R26). -/

namespace Sys2Proof.Machine

/-- The 51 values of DRV (10_state.md R26). DRV names the NEXT driver step to run (R36, R37). -/
inductive Drv
  /-- No write is in progress. -/
  | idle
  /-- The next step snapshots STATE and lowers the latch (41_serial_driver.md R121). -/
  | start
  /-- The next step presents bit `k` (R122). -/
  | data (k : Fin 16)
  /-- The next step raises the clock for bit `k` (R123). -/
  | clkHi (k : Fin 16)
  /-- The next step lowers the clock for bit `k` (R124). -/
  | clkLo (k : Fin 16)
  /-- The next step raises the latch and ends the write (R125). -/
  | commit
deriving DecidableEq, Repr, Inhabited

/-- The fixed successor of each value of DRV (10_state.md R26). `idle` has none: the driver has no step there,
and this function leaves it in place. -/
def Drv.next : Drv → Drv
  | .idle => .idle
  | .start => .data 15
  | .data k => .clkHi k
  | .clkHi k => .clkLo k
  | .clkLo k => if 0 < k.val then .data ⟨k.val - 1, by omega⟩ else .commit
  | .commit => .idle

/-- How many driver steps are left until DRV is Idle: 50 from Start (41_serial_driver.md R126). -/
def Drv.stepsLeft : Drv → Nat
  | .idle => 0
  | .start => 50
  | .data k => 3 * k.val + 4
  | .clkHi k => 3 * k.val + 3
  | .clkLo k => 3 * k.val + 2
  | .commit => 1

/-- How many rising edges of SER_CLK the write in progress has made (10_state.md R42). -/
def Drv.shifted : Drv → Nat
  | .idle => 0
  | .start => 0
  | .data k => 15 - k.val
  | .clkHi k => 15 - k.val
  | .clkLo k => 16 - k.val
  | .commit => 16

/-- Which bit of the frame in progress SER_DATA holds: the last one presented, which stays on the line until the next
Data step (10_state.md R35, 41_serial_driver.md R122). None before the first Data step of a write and between writes,
where the line keeps the last bit of the frame before. -/
def Drv.presented : Drv → Option (Fin 16)
  | .idle => none
  | .start => none
  | .data k => if h : k.val < 15 then some ⟨k.val + 1, by omega⟩ else none
  | .clkHi k => some k
  | .clkLo k => some k
  | .commit => some 0

end Sys2Proof.Machine
end

