-- ==== Sys2Proof/Config.lean ====
section
/-! DEFINITION. What is fixed before reset: the configuration tables that software of the block's owner chooses
(`BlockConfig`), and, as constants without a body, the parameters the spec leaves OPEN and the values it leaves free. -/

namespace Sys2Proof

/-- One entry of GROUPS: the three bit indices of a route (00_scope.md R7). They are natural numbers because a
malformed configuration may name an index above 15, which the reset check reports (60_exceptions.md R170). -/
structure BitGroup where
  i0 : Nat
  i1 : Nat
  i2 : Nat
deriving DecidableEq, Repr

/-- The configuration parameters that rules of the spec read (00_scope.md section 3, 10_state.md R38).
N_GROUPS is the number of entries of GROUPS (`BlockConfig.nGroups`), since GROUPS holds N_GROUPS entries (R7). -/
structure BlockConfig where
  /-- GROUPS, entry `g` at position `g` (00_scope.md R7). -/
  groups : List BitGroup
  /-- DEFAULT, the reset value of STATE (00_scope.md R9). -/
  dflt : Word
  /-- SRC_ORDER, the order in which the host polls its sources (42_control_loop.md R152, parameter of D20). -/
  srcOrder : List Nat
deriving DecidableEq, Repr

/-- PINMAP, the physical receiver pin that carries OUT[k]: OPEN (10_state.md R44, 92_eei_decisions.md D21). -/
opaque Config.pinmap : Fin 16 → Nat

/-- T_SETUP, from a Data(k) step to its ClkHi(k): OPEN; the model has no time (70_reset_and_hazards.md R205). -/
opaque Config.tSetup : Nat

/-- T_CLK_HI, from ClkHi(k) to ClkLo(k): OPEN (70_reset_and_hazards.md R205). -/
opaque Config.tClkHi : Nat

/-- T_CLK_LO, from ClkLo(k) to the next Data step: OPEN (70_reset_and_hazards.md R205). -/
opaque Config.tClkLo : Nat

/-- T_LATCH, around the Start and Commit steps: OPEN (70_reset_and_hazards.md R205). -/
opaque Config.tLatch : Nat

/-- DEBOUNCE[s], the stabilization interval of source `s`: OPEN, no rule reads it (42_control_loop.md R153). -/
opaque Config.debounce : Nat → Nat

/-- Free values: the level of a 1-bit item of the block after a refused command, where "a hardware implementation
may do anything" (60_exceptions.md R173). First argument the draw, second the item. DESIGN CHOICE, log entry 10. -/
opaque Config.afterRefusalBit : Nat → Nat → Bool

/-- Free value: CFG_CAUSE after a refused command (60_exceptions.md R173; log entry 10). -/
opaque Config.afterRefusalCause : Nat → BitVec 3

/-- Free value: DRV after a refused command (60_exceptions.md R173; log entry 10). -/
opaque Config.afterRefusalDrv : Nat → Machine.Drv

end Sys2Proof
end

