-- ==== Sys2Proof/Machine/Reference.lean ====
section
/-! DEFINITION. N_GROUPS and the reference configuration (00_scope.md R6, R10). -/

namespace Sys2Proof

/-- N_GROUPS: how many entries GROUPS holds (00_scope.md R6, R7). -/
def BlockConfig.nGroups (c : BlockConfig) : Nat := c.groups.length

/-- The reference configuration, "the one a model takes unless told otherwise" (00_scope.md R9, R10): five groups
(3k, 3k+1, 3k+2), DEFAULT = 0x4924, sources polled in ascending order (42_control_loop.md R152). Only the first
group and DEFAULT are in the source; the rest is the spec's choice D5 (log entry 2). -/
def BlockConfig.reference : BlockConfig where
  groups := [⟨0, 1, 2⟩, ⟨3, 4, 5⟩, ⟨6, 7, 8⟩, ⟨9, 10, 11⟩, ⟨12, 13, 14⟩]
  dflt := 0x4924#16
  srcOrder := [0, 1, 2, 3, 4]

end Sys2Proof
end

