-- ==== Sys2Proof/Syntax.lean ====
section
/-! DEFINITION. The commands of the block: one constructor per row of spec/opcode_table.json. -/

namespace Sys2Proof

/-- A command term (30_encoding.md R73, R74). -/
inductive Instr
  /-- NOP, the idle command (40_route_register.md R100). -/
  | nop
  /-- TOGGLE g: flip the three bits of group `g` (40_route_register.md R101). `g` is the zero-extended group id,
  an index into GROUPS (30_encoding.md R72). -/
  | toggle (g : Nat)
  /-- WRITE: serialize and latch the current STATE (41_serial_driver.md R120). -/
  | write
  /-- READ: copy STATE to RDATA (40_route_register.md R103). -/
  | read
deriving DecidableEq, Repr

end Sys2Proof
end

