-- ==== Sys2Proof/WellFormed.lean ====
section
/-! DEFINITION. Which command terms have a word of their own, in a configuration of `n` groups. -/

namespace Sys2Proof

/-- The group id fits the 3-bit field GID (30_encoding.md R71, R72). -/
def Instr.gidFits : Instr → Bool
  | .nop => true
  | .toggle g => decide (g < 8)
  | .write => true
  | .read => true

/-- The group id names one of the `n` configured groups (30_encoding.md R76). -/
def Instr.gidConfigured (n : Nat) : Instr → Bool
  | .nop => true
  | .toggle g => decide (g < n)
  | .write => true
  | .read => true

/-- A command term is well formed when both checks pass; with a valid configuration (`n` at most 5) the second
implies the first. -/
def Instr.wellFormed (n : Nat) (i : Instr) : Bool := i.gidFits && i.gidConfigured n

end Sys2Proof
end

