-- ==== Sys2Proof/Decode.lean ====
section
/-! DEFINITION. Format C8: the fields of a command word, the decoder, the encoder (30_encoding.md R70 to R78). -/

namespace Sys2Proof

/-- OP, bits 7:6 (30_encoding.md R71). -/
def opField (w : Command) : BitVec 2 := w.extractLsb' 6 2

/-- RSV, bits 5:3, which must be 000 (30_encoding.md R71, R75). -/
def rsvField (w : Command) : BitVec 3 := w.extractLsb' 3 3

/-- GID, bits 2:0 (30_encoding.md R71, R72). -/
def gidField (w : Command) : BitVec 3 := w.extractLsb' 0 3

/-- Why a word is illegal. -/
inductive IllegalReason
  /-- RSV is not 000 (30_encoding.md R75). -/
  | reservedField
  /-- A TOGGLE word whose GID is N_GROUPS or more (30_encoding.md R76). -/
  | unknownGroup
  /-- A NOP, WRITE or READ word whose GID is not 000 (30_encoding.md R77). -/
  | operandNotZero
deriving DecidableEq, Repr

/-- What a word decodes to: a command, or `Illegal w` with the reason (30_encoding.md R74). -/
inductive Decoded
  | legal (i : Instr)
  | illegal (why : IllegalReason) (w : Command)
deriving DecidableEq, Repr

/-- A command without an operand: legal only with GID = 000 (30_encoding.md R77). -/
def decodePlain (i : Instr) (w : Command) : Decoded :=
  if gidField w = 0#3 then .legal i else .illegal .operandNotZero w

/-- A TOGGLE word: legal only when GID names one of the `n` groups (30_encoding.md R76). -/
def decodeToggle (n : Nat) (w : Command) : Decoded :=
  if (gidField w).toNat < n then .legal (.toggle (gidField w).toNat) else .illegal .unknownGroup w

/-- The decoder, total on the 256 words, for a configuration of `n` groups (30_encoding.md R73, R74). -/
def decode (n : Nat) (w : Command) : Decoded :=
  if rsvField w ≠ 0#3 then .illegal .reservedField w
  else if opField w = 0b00#2 then decodePlain .nop w
  else if opField w = 0b01#2 then decodeToggle n w
  else if opField w = 0b10#2 then decodePlain .write w
  else decodePlain .read w

/-- The word of a command: OP, then RSV = 000, then GID (30_encoding.md R71, R73). -/
def encode : Instr → Command
  | .nop => 0b00#2 ++ 0b000#3 ++ 0b000#3
  | .toggle g => 0b01#2 ++ 0b000#3 ++ BitVec.ofNat 3 g
  | .write => 0b10#2 ++ 0b000#3 ++ 0b000#3
  | .read => 0b11#2 ++ 0b000#3 ++ 0b000#3

/-- The command the decoder reads from a word of the opcode table, in the reference configuration (00_scope.md
R10). A command is one 8-bit word (R70), so nothing else than 8 bits is a command. -/
def decodeTableWord (nbits w : Nat) : Option Instr :=
  if nbits = 8 then
    match decode BlockConfig.reference.nGroups (BitVec.ofNat 8 w) with
    | .legal i => some i
    | .illegal _ _ => none
  else none

end Sys2Proof
end

