-- ==== Sys2Proof/Machine/State.lean ====
section
/-! DEFINITION. The state of the block and of its receiver (10_state.md section 1), the host's pending input, the
run's event history, the reasons a step can stop, and the machine right after reset. -/

namespace Sys2Proof.Machine

/-- The three output lines (10_state.md R34). -/
inductive LineName
  | serData
  | serClk
  | serLatch
deriving DecidableEq, Repr

/-- The observable events of a run (10_state.md R46). -/
inductive Event
  /-- The host's command word is taken. -/
  | accept (w : Command)
  /-- READ returns a value. -/
  | read (v : Word)
  /-- A line is written with a level, also when the level does not change (41_serial_driver.md R122). -/
  | line (n : LineName) (level : Bool)
  /-- OUT takes a value at a rising edge of SER_LATCH. -/
  | commit (v : XWord)
  /-- A command word is refused (60_exceptions.md R173). -/
  | refused (w : Command)
  /-- A reset halts with a cause code (60_exceptions.md R171). -/
  | cfgDefect (code : BitVec 3)
deriving DecidableEq, Repr

/-- A register that can have no value (10_state.md R47). -/
inductive AbsentReg
  | state
  | frame
deriving DecidableEq, Repr

/-- Why the machine stops with a fault. -/
inductive Fault
  /-- The block is halted by a configuration defect with this cause code: no agent has a step, "and that state is a
  fault, not an end" (60_exceptions.md R171, 70_reset_and_hazards.md R207). Raised by the step. Safe. -/
  | halted (cause : BitVec 3)
  /-- A register without a value was to be read; such a read yields no number (10_state.md R47). Raised by TOGGLE,
  READ and the driver's Start and Data steps, only in states no run reaches. Safe. -/
  | noValue (r : AbsentReg)
  /-- Neither agent has a step although the block is not halted: BUSY = 1 with DRV = Idle, which R28 rules out.
  Raised by the step, only in states no run reaches. Safe. -/
  | noAgent
deriving DecidableEq, Repr

/-- Why the model has no meaning for what comes next. -/
inductive Refusal
  /-- The command has no meaning in this model yet. No arm of `exec` uses it. Safe. -/
  | notModelled (mnemonic : String)
  /-- The run carries the refusal mark of this illegal word (60_exceptions.md R173): no claim holds of it. Raised by
  every step of a marked run but a reset. Safe. -/
  | illegalCommand (w : Command)
  /-- TOGGLE of a group that is not configured, which no word decodes to (30_encoding.md R76). Raised by TOGGLE's
  meaning for an ill-formed term. Safe. -/
  | unknownGroup (g : Nat)
deriving DecidableEq, Repr

/-- The whole machine: block, receiver, host input, event history. -/
structure State where
  /-- N_GROUPS, GROUPS, DEFAULT (and the host's SRC_ORDER): fixed before reset (10_state.md R38). -/
  cfg : BlockConfig
  /-- STATE, the 16-bit state word; no value while halted (10_state.md R21, R23). -/
  state : Option Word
  /-- FRAME, the frame being sent; no value outside a write (10_state.md R25). HI is bits 15:8, LO bits 7:0. -/
  frame : Option Word
  /-- DRV, the driver sequencer (10_state.md R26). -/
  drv : Drv
  /-- BUSY (10_state.md R28). -/
  busy : Bool
  /-- HALTED (10_state.md R29). -/
  halted : Bool
  /-- CFG_CAUSE (10_state.md R30). -/
  cfgCause : BitVec 3
  /-- RDATA, the response register; no value before the first READ (10_state.md R32). -/
  rdata : Option Word
  /-- SER_DATA (10_state.md R35). -/
  serData : Bool
  /-- SER_CLK (10_state.md R36). -/
  serClk : Bool
  /-- SER_LATCH (10_state.md R37). -/
  serLatch : Bool
  /-- SR, the receiver's shift stage (10_state.md R41, R42). -/
  sr : XWord
  /-- OUT, the receiver's storage stage, which drives the physical outputs (10_state.md R43, R44). -/
  out : XWord
  /-- The run's event history, oldest first (10_state.md R46). -/
  events : List Event
  /-- REFUSED, the model's refusal mark, with the word refused; no step clears it (60_exceptions.md R173). -/
  refused : Option Command
  /-- LINK_OK: the link from block to receiver is ideal (10_state.md R45). The model's field for a fact about the
  environment; no step changes it (log entry 11). -/
  linkOk : Bool
  /-- The reset input is asserted (70_reset_and_hazards.md R190): the next step is a reset (log entry 7). -/
  resetPin : Bool
  /-- The command words the host is about to issue, first one first (40_route_register.md R99; log entry 5). -/
  cmds : List Command
  /-- The edge draws E_1, E_2, ... of the host's next iterations, each the sources that report an edge
  (42_control_loop.md R153; log entry 5). -/
  edges : List (List Nat)
  /-- The model's counter of free values drawn (log entry 10). -/
  freeDraws : Nat
deriving DecidableEq, Repr

/-- The machine right after power-on reset in the reference configuration (10_state.md section 1,
70_reset_and_hazards.md R190): STATE holds DEFAULT, the initial write is about to start, the receiver, FRAME and
RDATA have no value. The host has issued nothing, and no source reports an edge. -/
def State.reset : State where
  cfg := BlockConfig.reference
  state := some BlockConfig.reference.dflt
  frame := none
  drv := .start
  busy := true
  halted := false
  cfgCause := 0#3
  rdata := none
  serData := false
  serClk := false
  serLatch := true
  sr := XWord.noValue
  out := XWord.noValue
  events := []
  refused := none
  linkOk := true
  resetPin := false
  cmds := []
  edges := []
  freeDraws := 0

end Sys2Proof.Machine
end

