-- ==== Sys2Proof/Machine/Operands.lean ====
section
/-! DEFINITION. The block's one operand form: a group id, which names a mask (30_encoding.md R72,
40_route_register.md R102). -/

namespace Sys2Proof

/-- `1 << i` on 16 bits; a bit shifted out is lost (00_scope.md R12). -/
def bitMask (i : Nat) : Word := 1#16 <<< i

/-- The mask of a group: the OR of its three single-bit masks (40_route_register.md R102). -/
def BitGroup.mask (b : BitGroup) : Word := bitMask b.i0 ||| bitMask b.i1 ||| bitMask b.i2

/-- The three indices of a group, in the order of the entry (00_scope.md R7). -/
def BitGroup.indices (b : BitGroup) : List Nat := [b.i0, b.i1, b.i2]

/-- MASK(g), for a configured `g`; none for a `g` that names no group (40_route_register.md R102). -/
def groupMask (c : BlockConfig) (g : Nat) : Option Word := (c.groups[g]?).map BitGroup.mask

end Sys2Proof
end

