-- ==== Sys2Proof/Machine/ConfigCheck.lean ====
section
/-! DEFINITION. The configuration check of every reset (60_exceptions.md R170). -/

namespace Sys2Proof

/-- CFG_COUNT: no group, or more than a 3-bit GID can name (60_exceptions.md R170). -/
def countDefect (gs : List BitGroup) : Bool := gs.length == 0 || decide (8 < gs.length)

/-- CFG_RANGE: some index exceeds 15 (60_exceptions.md R170). -/
def rangeDefect (gs : List BitGroup) : Bool := gs.any fun b => b.indices.any fun i => decide (15 < i)

/-- CFG_DUP: some group's three indices are not pairwise distinct (60_exceptions.md R170). -/
def dupDefect (gs : List BitGroup) : Bool := gs.any fun b => b.i0 == b.i1 || b.i0 == b.i2 || b.i1 == b.i2

/-- Two groups have an index in common. -/
def BitGroup.shares (b c : BitGroup) : Bool := b.indices.any fun i => c.indices.contains i

/-- CFG_OVERLAP: two different entries share an index (60_exceptions.md R170). -/
def overlapDefect : List BitGroup → Bool
  | [] => false
  | b :: bs => bs.any b.shares || overlapDefect bs

/-- The cause code of a configuration: the first check that fails, in the fixed order, or 0 (60_exceptions.md R170,
R172). -/
def cfgCheck (gs : List BitGroup) : BitVec 3 :=
  if countDefect gs then 1#3
  else if rangeDefect gs then 2#3
  else if dupDefect gs then 3#3
  else if overlapDefect gs then 4#3
  else 0#3

end Sys2Proof
end

