-- ==== Sys2Proof/Machine/Receiver.lean ====
section
/-! DEFINITION. The receiver's reaction to the three lines (10_state.md R40 to R45, 41_serial_driver.md R133), and the
three line writes of the driver. The receiver has no steps of its own: it reacts inside the step that writes a
line (00_scope.md R14). -/

namespace Sys2Proof

/-- A word all of whose bits have a value. -/
def XWord.ofWord (w : Word) : XWord := Vector.ofFn fun k => some (w.getLsbD k.val)

/-- One shift: every bit moves one place toward bit 15, bit 15 is lost, `d` enters at bit 0 (10_state.md R41). -/
def XWord.shiftIn (x : XWord) (d : Bool) : XWord :=
  Vector.ofFn fun k => if k.val = 0 then some d else x[k.val - 1]

namespace Machine

/-- What a receiver stage holds after a line write: over an ideal link the given contents, over a broken one no
value (10_state.md R45; 93_implementation_defined.md I5; log entry 11). -/
def State.throughLink (s : State) (x : XWord) : XWord := if s.linkOk then x else XWord.noValue

/-- Write SER_DATA. The receiver has no reaction to a change of SER_DATA alone (41_serial_driver.md R122, R133). -/
def driveData (b : Bool) (s : State) : State :=
  { s with
    serData := b
    sr := s.throughLink s.sr
    out := s.throughLink s.out
    events := s.events ++ [.line .serData b] }

/-- Write SER_CLK. A rising edge shifts SER_DATA into SR; a falling edge does nothing (10_state.md R41,
41_serial_driver.md R133). -/
def driveClk (b : Bool) (s : State) : State :=
  { s with
    serClk := b
    sr := s.throughLink (if !s.serClk && b then XWord.shiftIn s.sr s.serData else s.sr)
    out := s.throughLink s.out
    events := s.events ++ [.line .serClk b] }

/-- Write SER_LATCH. A rising edge copies SR to OUT, all 16 bits in one step, and is a commit; a falling edge does
nothing (10_state.md R43, 41_serial_driver.md R131, R133). Over a broken link the `Commit` event is recorded as well,
without a value (DESIGN CHOICE, log entry 11). -/
def driveLatch (b : Bool) (s : State) : State :=
  { s with
    serLatch := b
    sr := s.throughLink s.sr
    out := s.throughLink (if !s.serLatch && b then s.sr else s.out)
    events := s.events ++ .line .serLatch b ::
      (if !s.serLatch && b then [.commit (s.throughLink s.sr)] else []) }

end Machine

end Sys2Proof
end

