-- ==== Sys2Proof/Machine/Ops.lean ====
section
/-! DEFINITION. The shared operations: recording an event, accepting and refusing a command, reset with its
configuration check, and the halted state (the block's only exception: 60_exceptions.md R178). The block has no
memory, so there are no memory operations (20_memory.md R50). -/

namespace Sys2Proof.Machine

/-- Record an event at the end of the run's history (10_state.md R46). -/
def State.emit (s : State) (e : Event) : State := { s with events := s.events ++ [e] }

/-- The host issues `w` and the block takes it, leaving `rest` to be issued: `emit Accept(cmd)`
(40_route_register.md R99). -/
def State.accept (s : State) (w : Command) (rest : List Command) : State :=
  { s with cmds := rest, events := s.events ++ [.accept w] }

/-- `refuse IllegalCommand(w)` (60_exceptions.md R173): the event and the refusal mark. The spec gives the block's
state after it no meaning, so the registers and the receiver have no value, and the block's other items are free
values, fresh at every refusal (log entry 10). -/
def refuseIllegal (w : Command) (s : State) : State :=
  { s with
    state := none
    frame := none
    rdata := none
    drv := Config.afterRefusalDrv s.freeDraws
    busy := Config.afterRefusalBit s.freeDraws 0
    halted := Config.afterRefusalBit s.freeDraws 1
    serData := Config.afterRefusalBit s.freeDraws 2
    serClk := Config.afterRefusalBit s.freeDraws 3
    serLatch := Config.afterRefusalBit s.freeDraws 4
    cfgCause := Config.afterRefusalCause s.freeDraws
    sr := XWord.noValue
    out := XWord.noValue
    events := s.events ++ [.refused w]
    refused := some w
    freeDraws := s.freeDraws + 1 }

/-- What every reset does besides loading the block's registers: the history restarts, and OUT has no value until the
initial write commits (70_reset_and_hazards.md R190, R192; log entries 8 and 9). The refusal mark stays, since no
step clears it (60_exceptions.md R173, R179). SR, the configuration, the link and the host's pending input are not
the block's and stay. -/
def beginRun (s : State) : State :=
  { s with events := [], resetPin := false, out := XWord.noValue }

/-- `raise CfgDefect(c)`: reset ends in the halted state (60_exceptions.md R171). This is the block's one exception;
nothing is saved, and only a reset leaves the state (R178, R179). -/
def raiseCfgDefect (c : BitVec 3) (s : State) : State :=
  { s with
    halted := true
    cfgCause := c
    busy := false
    drv := .idle
    state := none
    frame := none
    rdata := none
    serData := false
    serClk := false
    serLatch := true
    events := s.events ++ [.cfgDefect c] }

/-- The registers of the block after a reset whose configuration check passed (70_reset_and_hazards.md R190). -/
def loadResetValues (s : State) : State :=
  { s with
    halted := false
    cfgCause := 0#3
    state := some s.cfg.dflt
    frame := none
    rdata := none
    serData := false
    serClk := false
    serLatch := true
    busy := true
    drv := .start }

/-- Reset, one atomic step (70_reset_and_hazards.md R190). -/
def resetBlock (s : State) : State :=
  if cfgCheck s.cfg.groups = 0#3 then loadResetValues (beginRun s)
  else raiseCfgDefect (cfgCheck s.cfg.groups) (beginRun s)

/-- Power-on with configuration `c`: a reset while the receiver has no value and nothing is pending
(60_exceptions.md R186; 10_state.md R42, R44). -/
def powerOn (c : BlockConfig) : State :=
  resetBlock { State.reset with cfg := c, sr := XWord.noValue, out := XWord.noValue }

/-- The host presents `w` next, at a moment when it has a step: no write in progress, not halted, not refused, no
reset asserted. For `State.withFetchWord` (log entry 16). -/
def presentNext (w : Command) (s : State) : State :=
  { s with
    resetPin := false
    refused := none
    halted := false
    busy := false
    drv := .idle
    cmds := w :: s.cmds }

end Sys2Proof.Machine
end

