-- ==== Sys2Proof/Machine/RouteRegister.lean ====
section
/-! DEFINITION. The commands of the Route State Register: NOP, TOGGLE, READ (40_route_register.md). The step has
already recorded `Accept(cmd)`. -/

namespace Sys2Proof.Machine

/-- NOP: skip (40_route_register.md R100). -/
def execNop (s : State) : Host.Outcome State Fault Refusal := .next s

/-- TOGGLE g: `STATE <- STATE ^ MASK(g)` (40_route_register.md R101). A `g` that names no group is no command
(30_encoding.md R76); STATE without a value cannot be read (10_state.md R47). -/
def execToggle (g : Nat) (s : State) : Host.Outcome State Fault Refusal :=
  match groupMask s.cfg g, s.state with
  | none, _ => .refused (.unknownGroup g)
  | some _, none => .fault (.noValue .state)
  | some m, some w => .next { s with state := some (w ^^^ m) }

/-- READ: `RDATA <- STATE; emit Read(STATE)` (40_route_register.md R103). -/
def execRead (s : State) : Host.Outcome State Fault Refusal :=
  match s.state with
  | none => .fault (.noValue .state)
  | some w => .next (State.emit { s with rdata := some w } (.read w))

end Sys2Proof.Machine
end

