-- ==== Sys2Proof/Machine/SerialDriver.lean ====
section
/-! DEFINITION. The Serial Output Driver: the WRITE command and the driver's steps (41_serial_driver.md). -/

namespace Sys2Proof.Machine

/-- WRITE: `BUSY <- 1; DRV <- Start`. The driver then performs 50 steps, and the host is held until the last
(41_serial_driver.md R120). -/
def execWrite (s : State) : Host.Outcome State Fault Refusal :=
  .next { s with busy := true, drv := .start }

/-- Start: snapshot STATE into FRAME, lower the latch (41_serial_driver.md R121). -/
def driverStart (s : State) : Host.Outcome State Fault Refusal :=
  match s.state with
  | none => .fault (.noValue .state)
  | some w => .next { driveLatch false s with frame := some w, drv := Drv.next .start }

/-- Data(k): present bit `k` of FRAME (41_serial_driver.md R122). -/
def driverData (k : Fin 16) (s : State) : Host.Outcome State Fault Refusal :=
  match s.frame with
  | none => .fault (.noValue .frame)
  | some f => .next { driveData (f.getLsbD k.val) s with drv := Drv.next (.data k) }

/-- ClkHi(k): rising clock edge, the receiver shifts (41_serial_driver.md R123). -/
def driverClkHi (k : Fin 16) (s : State) : Host.Outcome State Fault Refusal :=
  .next { driveClk true s with drv := Drv.next (.clkHi k) }

/-- ClkLo(k): falling clock edge (41_serial_driver.md R124). -/
def driverClkLo (k : Fin 16) (s : State) : Host.Outcome State Fault Refusal :=
  .next { driveClk false s with drv := Drv.next (.clkLo k) }

/-- Commit: raise the latch, the receiver commits, the write ends (41_serial_driver.md R125). -/
def driverCommit (s : State) : Host.Outcome State Fault Refusal :=
  .next { driveLatch true s with frame := none, busy := false, drv := Drv.next .commit }

/-- The driver agent's step, selected by DRV; it has one exactly when DRV is not Idle (41_serial_driver.md
section 2). -/
def driverStep (s : State) : Host.Outcome State Fault Refusal :=
  match s.drv with
  | .idle => .fault .noAgent
  | .start => driverStart s
  | .data k => driverData k s
  | .clkHi k => driverClkHi k s
  | .clkLo k => driverClkLo k s
  | .commit => driverCommit s

/-- `exec_WRITE_atomic`, the one-step abstraction of a whole write of the state word `w`, with its one event
`Commit(STATE)` (41_serial_driver.md R134). It is no step of this machine: it is what the full sequence is compared
with. -/
def writeAtomic (w : Word) (s : State) : State :=
  { s with
    sr := XWord.ofWord w
    out := XWord.ofWord w
    serData := w.getLsbD 0
    serClk := false
    serLatch := true
    busy := false
    events := s.events ++ [.commit (XWord.ofWord w)] }

end Sys2Proof.Machine
end

