-- ==== Sys2Proof/Machine/Flags.lean ====
section
/-! DEFINITION. What the host can sense without a command: READY and the STATUS word (10_state.md R31, R33). The
block has no arithmetic flags and no condition codes (10_state.md R27). -/

namespace Sys2Proof.Machine

/-- READY = (BUSY = 0) and (HALTED = 0) (10_state.md R31). -/
def State.ready (s : State) : Bool := !s.busy && !s.halted

/-- STATUS[7:0]: BUSY in bit 0, HALTED in bit 1, CFG_CAUSE in bits 4:2, bits 7:5 read as 0 (10_state.md R33). -/
def State.status (s : State) : BitVec 8 :=
  0#3 ++ s.cfgCause ++ BitVec.ofBool s.halted ++ BitVec.ofBool s.busy

/-- The level on physical pin `p`: that of the bit of OUT which PINMAP puts there (10_state.md R44). None where no
bit is put there or the bit has no value. Whether PINMAP may put two bits on one pin the spec does not say; then this is
the lowest-numbered of them that has a value (DESIGN CHOICE, log entry 22). -/
def State.pinLevel (s : State) (p : Nat) : Option Bool :=
  (List.finRange 16).findSome? fun k => if Config.pinmap k = p then s.out[k] else none

end Sys2Proof.Machine
end

