-- ==== Sys2Proof/Machine/HostLoop.lean ====
section
/-! DEFINITION. The host, the control loop: which command words an iteration issues (42_control_loop.md R150 to
R154). -/

namespace Sys2Proof.Machine

/-- SERVICE g: the two commands TOGGLE g and WRITE (30_encoding.md R80, 42_control_loop.md R151). -/
def serviceCommands (g : Nat) : List Command := [encode (.toggle g), encode .write]

/-- One iteration with edge set `e`: a SERVICE for each source of SRC_ORDER that is in `e`, and source `s` uses
group `s` (42_control_loop.md R152, R154). A source that SRC_ORDER names twice is serviced once for each time, and the
word for a source of 8 or more carries its three low bits (DESIGN CHOICE, log entry 21). -/
def iterationCommands (c : BlockConfig) (e : List Nat) : List Command :=
  (c.srcOrder.filter fun g => e.contains g).flatMap serviceCommands

/-- The host has issued all commands of an iteration and polls its sources for the next one. When no draw is
pending, no source reports an edge, and nothing is issued (42_control_loop.md R153, R154, R157; log entries 5
and 6). -/
def pollSources (s : State) : State :=
  { s with cmds := iterationCommands s.cfg (s.edges.headD []), edges := s.edges.tail }

end Sys2Proof.Machine
end

