-- ==== Sys2Proof/Machine/Agents.lean ====
section
/-! DEFINITION. Which agent steps, and the host's step (00_scope.md R14, 40_route_register.md R99,
70_reset_and_hazards.md R207). -/

namespace Sys2Proof.Machine

/-- `host_step(cmd)`: the block records `Accept(cmd)` and executes or refuses the command in the same step
(40_route_register.md R99). With no command to issue, the host polls its sources for the next iteration. -/
def hostStep (s : State) : Host.Outcome State Fault Refusal :=
  match s.cmds with
  | [] => .next (pollSources s)
  | w :: rest =>
    match decode s.cfg.nGroups w with
    | .legal i => exec i (s.accept w rest)
    | .illegal _ _ => .next (refuseIllegal w (s.accept w rest))

/-- One step of the one agent that has a step. An asserted reset input comes first (70_reset_and_hazards.md R190).
It leaves the refusal mark, and a run that carries the mark has no meaning: its other steps are refused
(60_exceptions.md R173). In a halted block no agent has a step (R171).
The driver has a step exactly when DRV is not Idle, the host when READY = 1 (10_state.md R31); at most one of the
two (60_exceptions.md R177). -/
def agentStep (s : State) : Host.Outcome State Fault Refusal :=
  if s.resetPin then .next (resetBlock s)
  else
    match s.refused with
    | some w => .refused (.illegalCommand w)
    | none =>
      if s.halted then .fault (.halted s.cfgCause)
      else if s.drv ≠ .idle then driverStep s
      else if s.ready then hostStep s
      else .fault .noAgent

end Sys2Proof.Machine
end

