-- ==== Sys2Proof/Machine/Step.lean ====
section
/-! DEFINITION. The machine's step, and the state in which the next step runs a given command word. -/

namespace Sys2Proof.Machine

/-- One step of the machine (00_scope.md R14). -/
def step (s : State) : Host.Outcome State Fault Refusal := agentStep s

/-- `s` with the command of bits `w` (of `nbits` bits) as the next one the host issues, at a moment when the host has
a step (log entry 16). -/
def State.withFetchWord (s : State) (nbits w : Nat) : State := presentNext (BitVec.ofNat 8 (w % 2 ^ nbits)) s

end Sys2Proof.Machine
end

