-- ==== Sys2Proof/Machine/Assembler.lean ====
section
/-! DEFINITION. The command assembly language (30_encoding.md R79, R80). A line is a list of characters. -/

namespace Sys2Proof.Machine

/-- A command of the assembly language: one of the block's commands, or the pseudo-instruction SERVICE. -/
inductive AsmCommand
  | core (i : Instr)
  | service (g : Nat)
deriving DecidableEq, Repr

/-- The commands an assembly command stands for: SERVICE g is TOGGLE g then WRITE (30_encoding.md R80). -/
def AsmCommand.expand : AsmCommand → List Instr
  | .core i => [i]
  | .service g => [.toggle g, .write]

/-- A blank between tokens (DESIGN CHOICE, log entry 19). -/
def isBlank (c : Char) : Bool := c == ' ' || c == '\t'

/-- Split at blanks; `cur` is the token being read, its last character first. -/
def splitTokens (cur : List Char) : List Char → List (List Char)
  | [] => if cur.isEmpty then [] else [cur.reverse]
  | c :: cs =>
    if isBlank c then (if cur.isEmpty then [] else [cur.reverse]) ++ splitTokens [] cs
    else splitTokens (c :: cur) cs

/-- `gid := decimal 0..7`: one digit (30_encoding.md R79). -/
def readGid : List Char → Option Nat
  | [c] => if 48 ≤ c.toNat ∧ c.toNat ≤ 55 then some (c.toNat - 48) else none
  | _ => none

/-- One command from its tokens; nothing for an empty line, an error (outer none) for any other spelling
(30_encoding.md R79). -/
def readCommand : List (List Char) → Option (Option AsmCommand)
  | [] => some none
  | [m] =>
    if m = ['N', 'O', 'P'] then some (some (.core .nop))
    else if m = ['W', 'R', 'I', 'T', 'E'] then some (some (.core .write))
    else if m = ['R', 'E', 'A', 'D'] then some (some (.core .read))
    else none
  | [m, a] =>
    if m = ['T', 'O', 'G', 'G', 'L', 'E'] then (readGid a).map fun g => some (.core (.toggle g))
    else if m = ['S', 'E', 'R', 'V', 'I', 'C', 'E'] then (readGid a).map fun g => some (.service g)
    else none
  | _ => none

/-- The words of a line in a configuration of `n` groups: the comment is dropped, and a gid of `n` or more or any
other spelling is refused (30_encoding.md R79, R80). -/
def assembleLine (n : Nat) (line : List Char) : Option (List Command) :=
  match readCommand (splitTokens [] (line.takeWhile (· != ';'))) with
  | none => none
  | some none => some []
  | some (some a) => if a.expand.all (Instr.wellFormed n) then some (a.expand.map encode) else none

/-- The line of an assembly command, in the spelling of 30_encoding.md R79. -/
def AsmCommand.render : AsmCommand → List Char
  | .core .nop => ['N', 'O', 'P']
  | .core (.toggle g) => ['T', 'O', 'G', 'G', 'L', 'E', ' ', Char.ofNat (48 + g)]
  | .core .write => ['W', 'R', 'I', 'T', 'E']
  | .core .read => ['R', 'E', 'A', 'D']
  | .service g => ['S', 'E', 'R', 'V', 'I', 'C', 'E', ' ', Char.ofNat (48 + g)]

end Sys2Proof.Machine
end

