-- ==== Sys2Proof/Safety.lean ====
section
/-! DEFINITION. The terms in which claims about runs are stated: turns, the ideal link, the frame trace, the accepted
TOGGLEs, the events of one write, and the invariant of the block and its receiver. -/

namespace Sys2Proof.Machine

/-- `k` steps of the machine. -/
def runs (k : Nat) (s : State) : Host.Outcome State Fault Refusal := Host.Core.run Sys2Proof.core k s

/-- The premise LINK_OK, which every claim about SR or OUT carries (10_state.md R45). -/
def LinkOk (s : State) : Prop := s.linkOk = true

/-- The claim that SR and OUT, now `x` and `y`, are as in `s`, under its premise LINK_OK (10_state.md R45). -/
def ReceiverKept (s : State) (x y : XWord) : Prop := LinkOk s → x = s.sr ∧ y = s.out

/-- No reset is asserted, the run is not refused, the block is not halted: some agent has a step. -/
structure Running (s : State) : Prop where
  noReset : s.resetPin = false
  notRefused : s.refused = none
  notHalted : s.halted = false

/-- The host is the agent with a step: READY = 1 and no write is in progress (10_state.md R31,
70_reset_and_hazards.md R207). -/
structure HostTurn (s : State) : Prop extends Running s where
  idle : s.drv = .idle
  notBusy : s.busy = false

/-- The driver is the agent with a step (41_serial_driver.md section 2). -/
structure DriverTurn (s : State) : Prop extends Running s where
  active : s.drv ≠ .idle

/-- A write of the state word `w` is about to run its Start step, with the lines at their levels between writes
(10_state.md R36, R37). -/
structure WriteStarts (s : State) (w : Word) : Prop extends Running s where
  start : s.drv = .start
  word : s.state = some w
  clkLow : s.serClk = false
  latchHigh : s.serLatch = true

/-- The value of a `Commit` event. -/
def Event.commitValue : Event → Option XWord
  | .commit v => some v
  | .accept _ => none
  | .read _ => none
  | .line _ _ => none
  | .refused _ => none
  | .cfgDefect _ => none

/-- The frame trace: the `Commit` values of a history, in order (10_state.md R46). -/
def commitsOf (es : List Event) : List XWord := es.filterMap Event.commitValue

/-- Whether an event is the write of a line. -/
def Event.isLine : Event → Bool
  | .line _ _ => true
  | .accept _ => false
  | .read _ => false
  | .commit _ => false
  | .refused _ => false
  | .cfgDefect _ => false

/-- A history without its `Line` events, which the atomic write drops (41_serial_driver.md R134). -/
def withoutLines (es : List Event) : List Event := es.filter fun e => !e.isLine

/-- The group that an accepted TOGGLE command names. -/
def Event.toggled (c : BlockConfig) : Event → Option Nat
  | .accept w =>
    match decode c.nGroups w with
    | .legal (.toggle g) => some g
    | .legal .nop => none
    | .legal .write => none
    | .legal .read => none
    | .illegal _ _ => none
  | .read _ => none
  | .line _ _ => none
  | .commit _ => none
  | .refused _ => none
  | .cfgDefect _ => none

/-- The group ids of the TOGGLEs accepted in a history, in order. -/
def togglesOf (c : BlockConfig) (es : List Event) : List Nat := es.filterMap (Event.toggled c)

/-- MASK(g), and 0 for a `g` that names no group. -/
def maskOrZero (c : BlockConfig) (g : Nat) : Word := (groupMask c g).getD 0#16

/-- The XOR of MASK(g) over a list of group ids. -/
def xorMasks (c : BlockConfig) (gs : List Nat) : Word := gs.foldl (fun m g => m ^^^ maskOrZero c g) 0#16

/-- The configured group ids that occur an odd number of times in `gs`. -/
def oddGroups (c : BlockConfig) (gs : List Nat) : List Nat :=
  (List.range c.nGroups).filter fun g => gs.count g % 2 == 1

/-- The events after the last `Commit` of a history. -/
def sinceCommit (es : List Event) : List Event :=
  (es.reverse.takeWhile fun e => e.commitValue.isNone).reverse

/-- The three `Line` events of one bit of a frame (41_serial_driver.md R129). -/
def bitTrace (f : Word) (k : Nat) : List Event :=
  [.line .serData (f.getLsbD k), .line .serClk true, .line .serClk false]

/-- The events of one write of frame `f`: 50 `Line` events, then `Commit` (41_serial_driver.md R129). -/
def writeTrace (f : Word) : List Event :=
  .line .serLatch false :: (List.range 16).reverse.flatMap (bitTrace f)
    ++ [.line .serLatch true, .commit (XWord.ofWord f)]

/-- The frames that servicing the sources `gs`, one after the other, commits from state word `w`
(42_control_loop.md R158, `serve`). -/
def serveFrames (c : BlockConfig) : Word → List Nat → List Word
  | _, [] => []
  | w, g :: gs => (w ^^^ maskOrZero c g) :: serveFrames c (w ^^^ maskOrZero c g) gs

/-- The frames of a list of iterations with edge draws `es`, from state word `w` (42_control_loop.md R158,
`frames`). -/
def framesOf (c : BlockConfig) : Word → List (List Nat) → List Word
  | _, [] => []
  | w, e :: es =>
    serveFrames c w (c.srcOrder.filter fun g => e.contains g) ++
      framesOf c ((serveFrames c w (c.srcOrder.filter fun g => e.contains g)).getLastD w) es

/-- A valid group table: every index at most 15, the indices of a group distinct, no index in two groups
(00_scope.md R8). -/
structure ValidGroups (gs : List BitGroup) : Prop where
  inRange : ∀ b ∈ gs, ∀ i ∈ b.indices, i ≤ 15
  distinct : ∀ b ∈ gs, b.indices.Nodup
  disjoint : ∀ (g h : Nat) (b c : BitGroup), gs[g]? = some b → gs[h]? = some c → g ≠ h →
    ∀ i ∈ b.indices, i ∉ c.indices

/-- How many bits of a word are set. -/
def bitCount (w : Word) : Nat := ((List.range 16).filter fun k => w.getLsbD k).length

/-- The commands of the terms `is`, executed one after the other. -/
def execAll : List Instr → State → Host.Outcome State Fault Refusal
  | [], s => .next s
  | i :: is, s =>
    match exec i s with
    | .next t => execAll is t
    | .fault r => .fault r
    | .refused r => .refused r

/-- The invariant of the block and its receiver, at every state of a run that carries no refusal mark. -/
structure Coherent (s : State) : Prop where
  /-- BUSY = 1 exactly when DRV is not Idle (10_state.md R28). -/
  busy_iff : s.busy = true ↔ s.drv ≠ .idle
  /-- SER_CLK = 1 exactly when DRV = ClkLo(k) (R36). -/
  clk_iff : s.serClk = true ↔ ∃ k, s.drv = .clkLo k
  /-- SER_LATCH = 1 exactly when DRV is Idle or Start (R37). -/
  latch_iff : s.serLatch = true ↔ s.drv = .idle ∨ s.drv = .start
  /-- CFG_CAUSE is the code of the configuration check (R30). -/
  cause_eq : s.cfgCause = cfgCheck s.cfg.groups
  /-- HALTED = 1 exactly when that check fails (R29). -/
  halted_iff : s.halted = true ↔ cfgCheck s.cfg.groups ≠ 0#3
  /-- A halted block: DRV, FRAME, RDATA, SER_DATA as 60_exceptions.md R171 says, and no write is ever made. -/
  halted_lines : s.halted = true →
    s.drv = .idle ∧ s.frame = none ∧ s.rdata = none ∧ s.serData = false ∧ commitsOf s.events = []
  /-- STATE has a value exactly when the block is not halted (R23). -/
  state_iff : s.state.isSome = true ↔ s.halted = false
  /-- FRAME has a value exactly from the Start step to the Commit step (R25). -/
  frame_iff : s.frame.isSome = true ↔ s.drv ≠ .idle ∧ s.drv ≠ .start
  /-- FRAME equals STATE while it has a value: no TOGGLE is accepted during a write (41_serial_driver.md R121). -/
  frame_eq : ∀ f, s.frame = some f → s.state = some f
  /-- From one Data step to the next, or to the end of the write, SER_DATA is the bit of FRAME that the step presented
  (41_serial_driver.md R122, 70_reset_and_hazards.md R199). -/
  data_eq : ∀ k f, s.drv.presented = some k → s.frame = some f → s.serData = f.getLsbD k.val
  /-- From the end of a write to the first Data step of the next, SER_DATA is bit 0 of the last frame (10_state.md
  R35). -/
  data_rest : s.linkOk = true → s.drv.presented = none → ∀ v, (commitsOf s.events).getLast? = some v →
    v[0] = some s.serData
  /-- Before the first Data step after a reset SER_DATA is 0 (R35). -/
  data_reset : s.drv.presented = none → commitsOf s.events = [] → s.serData = false
  /-- After the k-th rising edge SR[k-1:0] = FRAME[15:16-k] (R42). -/
  sr_prefix : s.linkOk = true → ∀ (f : Word) (i : Fin 16), s.frame = some f → i.val < s.drv.shifted →
    s.sr[i] = some (f.getLsbD (16 - s.drv.shifted + i.val))
  /-- OUT is the last committed frame (R44). -/
  out_last : s.linkOk = true → ∀ v, (commitsOf s.events).getLast? = some v → s.out = v
  /-- The first commit is that of DEFAULT (70_reset_and_hazards.md R191). -/
  first_commit : s.linkOk = true → ∀ v, (commitsOf s.events).head? = some v → v = XWord.ofWord s.cfg.dflt
  /-- Until the initial commit the host is held, no command is accepted, STATE is DEFAULT and OUT has no value
  (70_reset_and_hazards.md R191, R192). -/
  before_commit : s.halted = false → commitsOf s.events = [] →
    s.busy = true ∧ s.state = some s.cfg.dflt ∧ (∀ w, .accept w ∉ s.events) ∧
      (s.linkOk = true → s.out = XWord.noValue)

/-- The invariant every step keeps: a run that carries no refusal mark is coherent (60_exceptions.md R173). -/
def RunInvariant (s : State) : Prop := s.refused = none → Coherent s

/-- STATE is DEFAULT XOR the masks of the groups toggled an odd number of times in the run (10_state.md R22). -/
def StateIsToggledDefault (s : State) : Prop :=
  s.refused = none → s.halted = false →
    s.state = some (s.cfg.dflt ^^^ xorMasks s.cfg (oddGroups s.cfg (togglesOf s.cfg s.events)))

/-- Between a TOGGLE and the next commit, OUT XOR STATE is the XOR of the masks of the TOGGLEs accepted since
(20_memory.md R63). No TOGGLE is accepted during a write, so counting from the last commit is counting from the
beginning of the last completed write. -/
def OutputLagsByPendingToggles (s : State) : Prop :=
  s.refused = none → LinkOk s → commitsOf s.events ≠ [] →
    ∃ o w, s.out = XWord.ofWord o ∧ s.state = some w ∧
      o ^^^ w = xorMasks s.cfg (togglesOf s.cfg (sinceCommit s.events))

/-- An event without the value a commit carries. -/
def Event.blockView : Event → Event
  | .commit _ => .commit XWord.noValue
  | .accept w => .accept w
  | .read v => .read v
  | .line n l => .line n l
  | .refused w => .refused w
  | .cfgDefect c => .cfgDefect c

/-- The machine less the receiver and the link: all that is the block's or the host's. -/
def State.blockView (s : State) : State :=
  { s with
    sr := XWord.noValue
    out := XWord.noValue
    linkOk := true
    events := s.events.map Event.blockView }

/-- The level of a write of SER_DATA. -/
def Event.dataLevel : Event → Option Bool
  | .line .serData l => some l
  | .line .serClk _ => none
  | .line .serLatch _ => none
  | .accept _ => none
  | .read _ => none
  | .commit _ => none
  | .refused _ => none
  | .cfgDefect _ => none

/-- The levels presented on SER_DATA in a history, in order. -/
def dataLevels (es : List Event) : List Bool := es.filterMap Event.dataLevel

/-- The bits of a byte, most significant first (20_memory.md R53). -/
def msbFirst (b : BitVec 8) : List Bool := (List.range 8).reverse.map b.getLsbD

/-- Bit 15 of STATE is 0 in the reference configuration (40_route_register.md R108). -/
def BitFifteenClear (s : State) : Prop :=
  s.cfg = BlockConfig.reference ∧ ∀ w, s.state = some w → w.getLsbD 15 = false

end Sys2Proof.Machine
end

