-- ==== Sys2Proof/Certificates/Slice0/Obligations.lean ====
section
/-! DEFINITION. The statements for the provers. What a statement says of SR and OUT it says under the premise LINK_OK
(10_state.md R45): by `LinkOk`, or by `ReceiverKept` where the rest holds over any link. -/

open Sys2Proof Sys2Proof.Machine

/-! Encoding. -/

/-- A word decodes to a command exactly when the command is well formed and the word is its encoding: no bit of a
word is dropped, and each command has one word (30_encoding.md sections 1 to 3). -/
def Obligations.DecodeAndEncodeAgree : Prop :=
  ∀ (n : Nat) (w : Command) (i : Instr), decode n w = .legal i ↔ i.wellFormed n = true ∧ encode i = w

/-- The legal words of the reference configuration, written out in 30_encoding.md section 2. -/
def Obligations.OpcodeMapWordsDecode : Prop :=
  decode 5 0b00000000#8 = .legal .nop ∧ decode 5 0b01000000#8 = .legal (.toggle 0) ∧
  decode 5 0b01000001#8 = .legal (.toggle 1) ∧ decode 5 0b01000010#8 = .legal (.toggle 2) ∧
  decode 5 0b01000011#8 = .legal (.toggle 3) ∧ decode 5 0b01000100#8 = .legal (.toggle 4) ∧
  decode 5 0b10000000#8 = .legal .write ∧ decode 5 0b11000000#8 = .legal .read

/-- A word is illegal exactly when RSV is not 000 (R75), or it is a TOGGLE word whose GID is N_GROUPS or more (R76),
or it is another word whose GID is not 000 (R77); with the counts and the words those rules name. -/
def Obligations.IllegalWordsAreThoseOfTheRules : Prop :=
  (∀ (n : Nat) (w : Command), (∃ why, decode n w = .illegal why w) ↔
    rsvField w ≠ 0b000#3 ∨ (opField w = 0b01#2 ∧ n ≤ (gidField w).toNat) ∨
      (opField w ≠ 0b01#2 ∧ gidField w ≠ 0b000#3)) ∧
  (((List.range 256).map (BitVec.ofNat 8)).filter fun w => rsvField w != 0b000#3).length = 224 ∧
  (((List.range 256).map (BitVec.ofNat 8)).filter fun w =>
    rsvField w == 0b000#3 && opField w != 0b01#2 && gidField w != 0b000#3).length = 21 ∧
  (∀ w : Command, (opField w = 0b01#2 ∧ rsvField w = 0b000#3 ∧ ∃ why, decode 5 w = .illegal why w) ↔
    w = 0x45#8 ∨ w = 0x46#8 ∨ w = 0x47#8)

/-- Exactly 3 + N_GROUPS of the 256 words are legal (30_encoding.md section 3). -/
def Obligations.LegalWordsAreThreePlusGroups : Prop :=
  ∀ n, n ≤ 8 → (((List.range 256).map (BitVec.ofNat 8)).filter fun w =>
    match decode n w with
    | .legal _ => true
    | .illegal _ _ => false).length = 3 + n

/-- The assembler emits the word of each command, drops a comment, expands SERVICE g to TOGGLE g and WRITE, and
refuses a group id that is not configured (30_encoding.md section 4). -/
def Obligations.AssemblerEmitsCommandWords : Prop :=
  (∀ n i, i.wellFormed n = true → ∀ comment : List Char,
    assembleLine n (AsmCommand.core i).render = some [encode i] ∧
    assembleLine n ((AsmCommand.core i).render ++ ';' :: comment) = some [encode i]) ∧
  (∀ n g, g < 8 → g < n →
    assembleLine n (AsmCommand.service g).render = some [0x40#8 ||| BitVec.ofNat 8 g, 0x80#8]) ∧
  (∀ n g, g < 8 → n ≤ g →
    assembleLine n (AsmCommand.core (.toggle g)).render = none ∧
    assembleLine n (AsmCommand.service g).render = none)

/-! The step and the host's hold. -/

/-- When the host has a step and its next word decodes to a command, the step records `Accept` and is `exec` of that
command. Around `exec` the model only takes the word off the host's list of words to issue. This is what the step
runs; what SR and OUT then hold the statements about the commands say, under LINK_OK. -/
def Obligations.StepRunsTheDecodedCommand : Prop :=
  ∀ s w rest i, HostTurn s → s.cmds = w :: rest → decode s.cfg.nGroups w = .legal i →
    step s = exec i { s with cmds := rest, events := s.events ++ [.accept w] }

/-- READY is BUSY = 0 and HALTED = 0; while READY = 0 no word is taken; the Commit step, and no other driver step,
lifts a BUSY hold; a HALTED hold never lifts before a reset. -/
def Obligations.BusyAndHaltedHoldTheHost : Prop :=
  (∀ s : State, s.ready = true ↔ s.busy = false ∧ s.halted = false) ∧
  (∀ s t, s.resetPin = false → s.ready = false → step s = .next t →
    t.cmds = s.cmds ∧ t.edges = s.edges ∧ ∃ es, t.events = s.events ++ es ∧ ∀ w, Event.accept w ∉ es) ∧
  (∀ s, DriverTurn s → s.drv = .commit → ∃ t, step s = .next t ∧ t.busy = false ∧ t.ready = true) ∧
  (∀ s t, DriverTurn s → s.drv ≠ .commit → step s = .next t → t.busy = s.busy) ∧
  (∀ s t, s.resetPin = false → s.halted = true → step s ≠ .next t)

/-- With no word left to issue the host polls: its next words are a SERVICE (TOGGLE g, then WRITE) for each source
of SRC_ORDER in the next edge draw; with no draw left nothing changes. That polling is a step of its own, and that a
missing draw is an empty one, is the model's choice (log entries 5 and 6), and so is what it issues where SRC_ORDER
names a source twice or one that has no group (log entry 21). -/
def Obligations.HostPollsItsSourcesInOrder : Prop :=
  (∀ s e es, HostTurn s → s.cmds = [] → s.edges = e :: es →
    ∃ x y, ReceiverKept s x y ∧ step s = .next { s with
      sr := x
      out := y
      cmds := (s.cfg.srcOrder.filter fun g => e.contains g).flatMap
        fun g => [0b01#2 ++ 0b000#3 ++ BitVec.ofNat 3 g, 0x80#8]
      edges := es }) ∧
  (∀ s, HostTurn s → s.cmds = [] → s.edges = [] →
    ∃ x y, ReceiverKept s x y ∧ step s = .next { s with sr := x, out := y })

/-! The commands. -/

/-- NOP changes nothing; only `Accept(0x00)` is recorded; a NOP word with a non-zero RSV or GID is illegal. -/
def Obligations.NopChangesNothing : Prop :=
  (∀ s, ∃ x y, ReceiverKept s x y ∧ exec .nop s = .next { s with sr := x, out := y }) ∧ encode .nop = 0x00#8 ∧
  (∀ s rest, HostTurn s → s.cmds = 0x00#8 :: rest →
    ∃ x y, ReceiverKept s x y ∧
      step s = .next { s with sr := x, out := y, cmds := rest, events := s.events ++ [.accept 0x00#8] }) ∧
  (∀ (n : Nat) (w : Command), opField w = 0b00#2 → (rsvField w ≠ 0b000#3 ∨ gidField w ≠ 0b000#3) →
    ∃ why, decode n w = .illegal why w)

/-- TOGGLE g XORs the mask of group g into STATE and changes nothing else; its word is 0x40 | g; a word with
g >= N_GROUPS does not decode to it. -/
def Obligations.ToggleXorsTheGroupMask : Prop :=
  (∀ s g b w, s.cfg.groups[g]? = some b → s.state = some w →
    ∃ x y, ReceiverKept s x y ∧ exec (.toggle g) s = .next { s with
      state := some (w ^^^ (1#16 <<< b.i0 ||| 1#16 <<< b.i1 ||| 1#16 <<< b.i2))
      sr := x
      out := y }) ∧
  (∀ s g b w rest, HostTurn s → g < 8 → s.cmds = (0x40#8 ||| BitVec.ofNat 8 g) :: rest →
    s.cfg.groups[g]? = some b → s.state = some w →
    ∃ x y, ReceiverKept s x y ∧ step s = .next { s with
      state := some (w ^^^ (1#16 <<< b.i0 ||| 1#16 <<< b.i1 ||| 1#16 <<< b.i2))
      sr := x
      out := y
      cmds := rest
      events := s.events ++ [.accept (0x40#8 ||| BitVec.ofNat 8 g)] }) ∧
  (∀ (n : Nat) (w : Command) (i : Instr), opField w = 0b01#2 → n ≤ (gidField w).toNat → decode n w ≠ .legal i)

/-- READ writes STATE to RDATA, records `Read`, and changes nothing else; it is not taken while READY = 0. -/
def Obligations.ReadCopiesStateToRdata : Prop :=
  (∀ s w, s.state = some w →
    ∃ x y, ReceiverKept s x y ∧
      exec .read s = .next { s with rdata := some w, sr := x, out := y, events := s.events ++ [.read w] }) ∧
  (∀ s w rest, HostTurn s → s.cmds = 0xC0#8 :: rest → s.state = some w →
    ∃ x y, ReceiverKept s x y ∧ step s = .next { s with
      rdata := some w
      sr := x
      out := y
      cmds := rest
      events := s.events ++ [.accept 0xC0#8, .read w] }) ∧
  (∀ s t rest, s.resetPin = false → s.ready = false → s.cmds = 0xC0#8 :: rest → step s = .next t →
    t.cmds = s.cmds ∧ t.rdata = s.rdata)

/-- WRITE sets BUSY and starts the driver, and changes nothing else (41_serial_driver.md section 1). -/
def Obligations.WriteStartsTheDriver : Prop :=
  (∀ s, ∃ x y, ReceiverKept s x y ∧
    exec .write s = .next { s with busy := true, drv := .start, sr := x, out := y }) ∧
  (∀ s rest, HostTurn s → s.cmds = 0x80#8 :: rest →
    ∃ x y, ReceiverKept s x y ∧ step s = .next { s with
      busy := true
      drv := .start
      sr := x
      out := y
      cmds := rest
      events := s.events ++ [.accept 0x80#8] })

/-- Where a meaning stops: TOGGLE of a group that is not configured, and TOGGLE or READ while STATE has no value;
nowhere else, so that every well-formed command completes wherever STATE has a value (60_exceptions.md section 3). The
names of the stops are the model's choice (log entries 13 and 17). -/
def Obligations.CommandsStopOnlyWithoutGroupOrState : Prop :=
  (∀ s g, s.cfg.groups[g]? = none → exec (.toggle g) s = .refused (.unknownGroup g)) ∧
  (∀ s g b, s.cfg.groups[g]? = some b → s.state = none → exec (.toggle g) s = .fault (.noValue .state)) ∧
  (∀ s, s.state = none → exec .read s = .fault (.noValue .state)) ∧
  (∀ i s, (∀ t, exec i s ≠ .next t) →
    (∃ g, i = .toggle g ∧ (s.cfg.groups[g]? = none ∨ s.state = none)) ∨ (i = .read ∧ s.state = none)) ∧
  (∀ i s, i.wellFormed s.cfg.nGroups = true → s.state ≠ none → ∃ t, exec i s = .next t)

/-- No command touches FRAME, the lines, the receiver, the configuration, HALTED or CFG_CAUSE: the lines are the
driver's alone (10_state.md sections 3 to 7). That `exec` leaves the model's own fields as well (the refusal mark, the
link, the reset input, the words and the edge draws) is the model's choice (log entries 2, 5, 7, 10 and 11). -/
def Obligations.CommandsLeaveTheLinesToTheDriver : Prop :=
  ∀ i s t, exec i s = .next t →
    t.serData = s.serData ∧ t.serClk = s.serClk ∧ t.serLatch = s.serLatch ∧ t.frame = s.frame ∧
    ReceiverKept s t.sr t.out ∧ t.cfg = s.cfg ∧ t.halted = s.halted ∧ t.cfgCause = s.cfgCause ∧
    t.refused = s.refused ∧ t.linkOk = s.linkOk ∧ t.resetPin = s.resetPin ∧ t.cmds = s.cmds ∧ t.edges = s.edges

/-- An illegal word is refused: `Accept` and `Refused` are recorded and the mark is set; no later step, a reset
included, clears it. Nothing is said of what else the state holds. That every later step but a reset is a refusal is
the model's choice (log entry 10). -/
def Obligations.IllegalWordMarksTheRun : Prop :=
  (∀ s w rest why, HostTurn s → s.cmds = w :: rest → decode s.cfg.nGroups w = .illegal why w →
    ∃ t, step s = .next t ∧ t.refused = some w ∧ t.events = s.events ++ [.accept w, .refused w] ∧
      step t = .refused (.illegalCommand w)) ∧
  (∀ s w, s.resetPin = false → s.refused = some w → step s = .refused (.illegalCommand w)) ∧
  (∀ s t w, s.refused = some w → step s = .next t → t.refused = some w)

/-! Laws of TOGGLE and of the masks. -/

/-- In a valid group table a mask has exactly three bits set and two groups' masks are disjoint; the masks of the
reference configuration. -/
def Obligations.GroupMasksAreDisjointTriples : Prop :=
  (∀ (c : BlockConfig) (g : Nat) (b : BitGroup), c.groups[g]? = some b →
    groupMask c g = some (1#16 <<< b.i0 ||| 1#16 <<< b.i1 ||| 1#16 <<< b.i2)) ∧
  (∀ (c : BlockConfig) (g : Nat) (m : Word), ValidGroups c.groups → groupMask c g = some m → bitCount m = 3) ∧
  (∀ (c : BlockConfig) (g h : Nat) (m n : Word), ValidGroups c.groups → g ≠ h → groupMask c g = some m →
    groupMask c h = some n → m &&& n = 0#16) ∧
  (List.range 6).map (groupMask BlockConfig.reference) =
    [some 0x0007#16, some 0x0038#16, some 0x01C0#16, some 0x0E00#16, some 0x7000#16, none] ∧
  0x0007#16 ||| 0x0038#16 ||| 0x01C0#16 ||| 0x0E00#16 ||| 0x7000#16 = 0x7FFF#16

/-- The order of the three indices in an entry of GROUPS has no effect on its mask. -/
def Obligations.IndexOrderDoesNotMatter : Prop :=
  ∀ b c : BitGroup, b.indices.Perm c.indices → b.mask = c.mask

/-- TOGGLE flips exactly three bits of STATE, for every prior STATE, and no bit outside its group. -/
def Obligations.ToggleFlipsExactlyThreeBits : Prop :=
  ∀ s g b w, ValidGroups s.cfg.groups → s.cfg.groups[g]? = some b → s.state = some w →
    ∃ w' x y, ReceiverKept s x y ∧ exec (.toggle g) s = .next { s with state := some w', sr := x, out := y } ∧
      bitCount (w' ^^^ w) = 3 ∧ ∀ k, k < 16 → k ∉ b.indices → w'.getLsbD k = w.getLsbD k

/-- Two TOGGLE g in succession restore the whole state; one does not: TOGGLE is an involution, not idempotent. -/
def Obligations.ToggleTwiceRestores : Prop :=
  ∀ s g b w, s.cfg.groups[g]? = some b → s.state = some w →
    ∃ t x y, exec (.toggle g) s = .next t ∧ ReceiverKept s x y ∧
      exec (.toggle g) t = .next { s with sr := x, out := y } ∧ (ValidGroups s.cfg.groups → t.state ≠ s.state)

/-- The outcome of a sequence of TOGGLEs depends only on which groups occur an odd number of times in it; the frames
committed in between do depend on the order. -/
def Obligations.ToggleOrderDoesNotMatter : Prop :=
  ∀ s w gs hs, s.state = some w → (∀ g ∈ gs ++ hs, g < s.cfg.nGroups) →
    (∀ g, gs.count g % 2 = hs.count g % 2) →
    (∀ ks ∈ [gs, hs], ∃ x y, ReceiverKept s x y ∧ execAll (ks.map Instr.toggle) s =
      .next { s with state := some (w ^^^ xorMasks s.cfg (oddGroups s.cfg gs)), sr := x, out := y }) ∧
    serveFrames BlockConfig.reference 0x4924#16 [0, 2] ≠ serveFrames BlockConfig.reference 0x4924#16 [2, 0]

/-- A TOGGLE changes no bit of another group's mask, and a step without reset changes a group's bits of STATE only as
the host's step that takes and executes a TOGGLE of that group, which flips the whole mask. -/
def Obligations.ToggleLeavesOtherGroupsAlone : Prop :=
  (∀ s g h b n w, ValidGroups s.cfg.groups → g ≠ h → s.cfg.groups[g]? = some b →
    groupMask s.cfg h = some n → s.state = some w →
    ∃ w' x y, ReceiverKept s x y ∧ exec (.toggle g) s = .next { s with state := some w', sr := x, out := y } ∧
      w' &&& n = w &&& n) ∧
  (∀ s t h n w w', ValidGroups s.cfg.groups → s.resetPin = false → step s = .next t →
    groupMask s.cfg h = some n → s.state = some w → t.state = some w' → w' &&& n ≠ w &&& n →
    HostTurn s ∧ w' = w ^^^ n ∧
      ∃ v rest, s.cmds = v :: rest ∧ decode s.cfg.nGroups v = .legal (.toggle h) ∧ t.cmds = rest ∧
        t.events = s.events ++ [.accept v])

/-- In the reference configuration bit 15 of DEFAULT is 0, and every step keeps bit 15 of STATE 0. -/
def Obligations.BitFifteenStaysClear : Prop :=
  BitFifteenClear State.reset ∧ ∀ s t, BitFifteenClear s → step s = .next t → BitFifteenClear t

/-! The driver and the receiver. -/

/-- One driver step for each value of DRV, each with everything it changes, over an ideal link and with the lines at
the levels R36 and R37 give them. -/
def Obligations.DriverStepsFollowTheSequencer : Prop :=
  (∀ s w, DriverTurn s → LinkOk s → s.drv = .start → s.state = some w → s.serLatch = true →
    step s = .next { s with
      frame := some w
      serLatch := false
      drv := .data 15
      events := s.events ++ [.line .serLatch false] }) ∧
  (∀ s k f, DriverTurn s → LinkOk s → s.drv = .data k → s.frame = some f →
    step s = .next { s with
      serData := f.getLsbD k.val
      drv := .clkHi k
      events := s.events ++ [.line .serData (f.getLsbD k.val)] }) ∧
  (∀ s k, DriverTurn s → LinkOk s → s.drv = .clkHi k → s.serClk = false →
    ∃ x : XWord, x[0] = some s.serData ∧ (∀ (i : Nat) (h : i < 15), x[i + 1] = s.sr[i]) ∧
      step s = .next { s with
        serClk := true
        sr := x
        drv := .clkLo k
        events := s.events ++ [.line .serClk true] }) ∧
  (∀ s (k : Fin 16), DriverTurn s → LinkOk s → s.drv = .clkLo k →
    step s = .next { s with
      serClk := false
      drv := if 0 < k.val then .data ⟨k.val - 1, by omega⟩ else .commit
      events := s.events ++ [.line .serClk false] }) ∧
  (∀ s, DriverTurn s → LinkOk s → s.drv = .commit → s.serLatch = false →
    step s = .next { s with
      serLatch := true
      out := s.sr
      frame := none
      busy := false
      drv := .idle
      events := s.events ++ [.line .serLatch true, .commit s.sr] })

/-- From Start the driver reaches Idle in exactly 50 steps, whatever the link does, and at each of them it is the one
agent with a step. -/
def Obligations.WriteTakesFiftyDriverSteps : Prop :=
  ∀ s w, Running s → s.drv = .start → s.state = some w →
    (∃ t, runs 50 s = .next t ∧ t.drv = .idle ∧ t.busy = false) ∧
    ∀ j, j < 50 → ∃ u, runs j s = .next u ∧ DriverTurn u ∧ u.drv.stepsLeft = 50 - j ∧ u.cmds = s.cmds

/-- A whole write of the state word w: SR and OUT end equal to w, the events are the 50 `Line` events and the
`Commit` of its trace, and nothing else changes but the lines and the sequencer. -/
def Obligations.WriteSendsAndLatchesTheFrame : Prop :=
  ∀ s w, WriteStarts s w → LinkOk s →
    runs 50 s = .next { s with
      frame := none
      drv := .idle
      busy := false
      serData := w.getLsbD 0
      serClk := false
      serLatch := true
      sr := XWord.ofWord w
      out := XWord.ofWord w
      events := s.events ++ writeTrace w }

/-- The levels on SER_DATA during a write are the high byte of STATE, then the low byte, each most significant bit
first. -/
def Obligations.FrameGoesOutHighByteFirst : Prop :=
  ∀ s w, WriteStarts s w →
    ∃ t, runs 50 s = .next t ∧
      dataLevels t.events =
        dataLevels s.events ++ msbFirst ((w >>> 8).setWidth 8) ++ msbFirst ((w &&& 0x00FF#16).setWidth 8)

/-- SR at power-on has no value, and reset does not touch it; after the k-th rising clock edge of a write its k low
bits are the k high bits of the frame, and the bits above hold what they held before the write, k places lower. -/
def Obligations.ShiftStageDuringWrite : Prop :=
  (LinkOk State.reset ∧ State.reset.sr = XWord.noValue) ∧
  (∀ s t, s.resetPin = true → LinkOk s → step s = .next t → t.sr = s.sr) ∧
  (∀ s w k, WriteStarts s w → LinkOk s → k ≤ 16 →
    ∃ t, runs (1 + 3 * k) s = .next t ∧
      (∀ i : Fin 16, i.val < k → t.sr[i] = some (w.getLsbD (16 - k + i.val))) ∧
      (∀ (i : Nat) (h : i < 16), k ≤ i → t.sr[i] = s.sr[i - k]))

/-- From the Start step to the step before the Commit step OUT keeps its previous value. -/
def Obligations.OutputsUnchangedUntilCommit : Prop :=
  ∀ s w j, WriteStarts s w → LinkOk s → j ≤ 49 → ∃ t, runs j s = .next t ∧ t.out = s.out

/-- Whatever the step: SR shifts exactly on a rising edge of SER_CLK, OUT takes SR exactly on a rising edge of
SER_LATCH, which only the Commit step makes and which is the only source of a `Commit` event. -/
def Obligations.ReceiverReactsOnlyToRisingEdges : Prop :=
  ∀ s t, s.resetPin = false → LinkOk s → step s = .next t → t.refused = none →
    (¬(s.serClk = false ∧ t.serClk = true) → t.sr = s.sr) ∧
    (s.serClk = false ∧ t.serClk = true →
      t.sr[0] = some s.serData ∧ ∀ (i : Nat) (h : i < 15), t.sr[i + 1] = s.sr[i]) ∧
    (¬(s.serLatch = false ∧ t.serLatch = true) →
      t.out = s.out ∧ commitsOf t.events = commitsOf s.events) ∧
    (s.serLatch = false ∧ t.serLatch = true →
      s.drv = .commit ∧ t.out = s.sr ∧ commitsOf t.events = commitsOf s.events ++ [s.sr])

/-- The host's WRITE step and the driver's 50 steps give what accepting WRITE and the one atomic step of the rule give:
the same state and, without the `Line` events, the same history, so the same frame trace. FRAME, which the rule drops,
has no value after the full sequence. -/
def Obligations.WriteRefinesItsAtomicStep : Prop :=
  ∀ s w rest, HostTurn s → LinkOk s → s.serClk = false → s.serLatch = true → s.cmds = 0x80#8 :: rest →
    s.state = some w →
    ∃ t, runs 51 s = .next t ∧
      t = { writeAtomic w (s.accept 0x80#8 rest) with
        frame := none
        events := s.events ++ .accept 0x80#8 :: writeTrace w } ∧
      withoutLines t.events = withoutLines (writeAtomic w (s.accept 0x80#8 rest)).events ∧
      commitsOf t.events = commitsOf (writeAtomic w (s.accept 0x80#8 rest)).events ∧
      commitsOf t.events = commitsOf s.events ++ [XWord.ofWord w]

/-- The block has no input from the receiver: whatever SR and OUT hold and whether the link is ideal or broken, a step
has the same outcome for the block, and a broken link raises nothing (41_serial_driver.md section 3, 60_exceptions.md
section 3). That over a broken link the block steps as over an ideal one is the model's choice (log entry 11). -/
def Obligations.BlockHasNoInputFromTheReceiver : Prop :=
  ∀ s x y l, match step s, step { s with sr := x, out := y, linkOk := l } with
    | .next t, .next t' => t.blockView = t'.blockView
    | .fault r, .fault r' => r = r'
    | .refused r, .refused r' => r = r'
    | _, _ => False

/-! Reset and the configuration check. -/

/-- The machine after power-on reset in the reference configuration, field by field; what the model's own fields and
the host's input hold there is the model's choice (log entries 5, 7, 10, 11), and that the history is empty rests on a
reset recording no `Line` event (log entry 9). -/
def Obligations.PowerOnResetValues : Prop :=
  State.reset = powerOn BlockConfig.reference ∧ LinkOk State.reset ∧
  State.reset.state = some 0x4924#16 ∧ State.reset.frame = none ∧
  State.reset.drv = .start ∧ State.reset.busy = true ∧ State.reset.halted = false ∧ State.reset.cfgCause = 0#3 ∧
  State.reset.rdata = none ∧ State.reset.serData = false ∧ State.reset.serClk = false ∧
  State.reset.serLatch = true ∧ State.reset.sr = XWord.noValue ∧ State.reset.out = XWord.noValue ∧
  State.reset.events = [] ∧ State.reset.refused = none

/-- A reset with a valid configuration, from every state, with all it changes. That OUT has no value after every
reset, that the history restarts, that the mark of a refused command stays and that the reset input is released are
the model's readings (log entries 7, 8 and 9). -/
def Obligations.ResetLoadsTheResetValues : Prop :=
  ∀ s, s.resetPin = true → cfgCheck s.cfg.groups = 0#3 →
    ∃ x y, (LinkOk s → x = s.sr ∧ y = XWord.noValue) ∧ step s = .next { s with
      halted := false
      cfgCause := 0#3
      state := some s.cfg.dflt
      frame := none
      rdata := none
      serData := false
      serClk := false
      serLatch := true
      busy := true
      drv := .start
      sr := x
      out := y
      events := []
      resetPin := false }

/-- A reset with an invalid configuration ends in the halted state, with all it changes, and unless the run carries a
refusal mark the next step is the fault of a halted block with its cause code. OUT, the history and the mark are as in
`ResetLoadsTheResetValues` (log entries 8 and 9); that there is a next step without another reset rests on the reset
input being released (log entry 7), and that it is a fault on log entry 12. -/
def Obligations.InvalidConfigurationHalts : Prop :=
  ∀ s, s.resetPin = true → cfgCheck s.cfg.groups ≠ 0#3 →
    ∃ t x y, step s = .next t ∧ (LinkOk s → x = s.sr ∧ y = XWord.noValue) ∧
      t = { s with
        halted := true
        cfgCause := cfgCheck s.cfg.groups
        busy := false
        drv := .idle
        state := none
        frame := none
        rdata := none
        serData := false
        serClk := false
        serLatch := true
        sr := x
        out := y
        events := [.cfgDefect (cfgCheck s.cfg.groups)]
        resetPin := false } ∧
      (s.refused = none → step t = .fault (.halted (cfgCheck s.cfg.groups)))

/-- After a reset with a valid configuration the driver makes the initial write: it commits DEFAULT, the first commit
of the run, and until then no word is taken from the host. That 51 steps suffice rests on the reset input being
released by the reset (log entry 7), and that the history is exactly that of the write on a reset restarting it and
recording no `Line` event (log entry 9). -/
def Obligations.ResetMakesTheInitialWrite : Prop :=
  ∀ s, s.resetPin = true → s.refused = none → LinkOk s → cfgCheck s.cfg.groups = 0#3 →
    (∃ t, runs 51 s = .next t ∧ HostTurn t ∧ t.state = some s.cfg.dflt ∧ t.out = XWord.ofWord s.cfg.dflt ∧
      t.events = writeTrace s.cfg.dflt ∧ commitsOf t.events = [XWord.ofWord s.cfg.dflt]) ∧
    ∀ j, 0 < j → j < 51 → ∃ u, runs j s = .next u ∧ u.busy = true ∧ u.cmds = s.cmds ∧
      commitsOf u.events = [] ∧ ∀ w, Event.accept w ∉ u.events

/-- The configuration check reports the first check that fails, in the order count, range, duplicate, overlap; what
passes it has 1 to 5 groups. -/
def Obligations.ConfigCheckReportsFirstDefect : Prop :=
  ∀ gs : List BitGroup,
    let count := gs.length = 0 ∨ 8 < gs.length
    let range := ∃ b ∈ gs, ∃ i ∈ b.indices, 15 < i
    let dup := ∃ b ∈ gs, ¬ b.indices.Nodup
    let overlap := ∃ (g h : Nat) (b c : BitGroup), gs[g]? = some b ∧ gs[h]? = some c ∧ g ≠ h ∧
      ∃ i ∈ b.indices, i ∈ c.indices
    (cfgCheck gs = 1#3 ↔ count) ∧
    (cfgCheck gs = 2#3 ↔ ¬ count ∧ range) ∧
    (cfgCheck gs = 3#3 ↔ ¬ count ∧ ¬ range ∧ dup) ∧
    (cfgCheck gs = 4#3 ↔ ¬ count ∧ ¬ range ∧ ¬ dup ∧ overlap) ∧
    (cfgCheck gs = 0#3 ↔ ¬ count ∧ ¬ range ∧ ¬ dup ∧ ¬ overlap) ∧
    (cfgCheck gs = 0#3 → 1 ≤ gs.length ∧ gs.length ≤ 5) ∧
    cfgCheck [⟨0, 0, 16⟩] = 2#3

/-- A configuration passes the check exactly when its group table is valid and has between 1 and 5 groups: six
disjoint triples do not fit in 16 bits. -/
def Obligations.PassingConfigurationsHaveOneToFiveGroups : Prop :=
  ∀ gs : List BitGroup, cfgCheck gs = 0#3 ↔ ValidGroups gs ∧ 1 ≤ gs.length ∧ gs.length ≤ 5

/-- STATUS holds BUSY in bit 0, HALTED in bit 1, CFG_CAUSE in bits 4:2, and reads 0 in bits 7:5. -/
def Obligations.StatusWordFields : Prop :=
  ∀ s : State, s.status.getLsbD 0 = s.busy ∧ s.status.getLsbD 1 = s.halted ∧
    s.status.extractLsb' 2 3 = s.cfgCause ∧ s.status.extractLsb' 5 3 = 0#3

/-! What only some steps write. -/

/-- Outside reset and refusal, STATE changes only by a TOGGLE, and then by that group's whole mask; a reset with a
valid configuration loads DEFAULT. -/
def Obligations.OnlyToggleAndResetWriteState : Prop :=
  (∀ s t, s.resetPin = true → cfgCheck s.cfg.groups = 0#3 → step s = .next t → t.state = some s.cfg.dflt) ∧
  ∀ s t, s.resetPin = false → step s = .next t → t.refused = none → t.state ≠ s.state →
    HostTurn s ∧ ∃ v rest g m w, s.cmds = v :: rest ∧ decode s.cfg.nGroups v = .legal (.toggle g) ∧
      groupMask s.cfg g = some m ∧ s.state = some w ∧ t.state = some (w ^^^ m)

/-- RDATA keeps its value until the next READ, which writes STATE to it; a reset leaves it with no value. -/
def Obligations.OnlyReadWritesRdata : Prop :=
  (∀ s t, s.resetPin = false → step s = .next t → t.refused = none → t.rdata ≠ s.rdata →
    HostTurn s ∧ (∃ v rest, s.cmds = v :: rest ∧ decode s.cfg.nGroups v = .legal .read) ∧ t.rdata = s.state) ∧
  (∀ s t, s.resetPin = true → step s = .next t → t.rdata = none) ∧
  State.reset.rdata = none

/-- Nothing but reset writes HALTED or CFG_CAUSE, whose values 5 to 7 never occur; a halted block has no step before a
reset; and nothing writes the configuration (10_state.md sections 4 and 6), which this model holds as a field of State
(the model's choice, log entry 2). Steps of a refused run are left out: the block's state has no meaning there. -/
def Obligations.ConfigurationIsReadOnly : Prop :=
  (∀ s t, step s = .next t → t.cfg = s.cfg) ∧
  (∀ s t, s.resetPin = false → step s = .next t → t.refused = none →
    t.halted = s.halted ∧ t.cfgCause = s.cfgCause) ∧
  (∀ s t, s.resetPin = true → step s = .next t →
    t.cfgCause = cfgCheck s.cfg.groups ∧ (t.halted = true ↔ cfgCheck s.cfg.groups ≠ 0#3)) ∧
  (∀ s t, s.resetPin = false → s.halted = true → step s ≠ .next t) ∧
  (∀ gs, (cfgCheck gs).toNat ≤ 4)

/-! Invariants and whole runs. -/

/-- The invariant of block and receiver holds after power-on reset, in every configuration. -/
def Obligations.RunInvariantAtReset : Prop :=
  RunInvariant State.reset ∧ ∀ c, RunInvariant (powerOn c)

/-- Every step keeps the invariant of block and receiver: BUSY and the line levels follow DRV, FRAME equals STATE
while a write is in progress, SER_DATA is the last bit presented, in a write and between writes, the shifted part of
SR is the frame's, OUT is the last committed frame, the first commit is DEFAULT, and the host is held until it. -/
def Obligations.EveryStepKeepsTheRunInvariant : Prop :=
  ∀ s t, RunInvariant s → step s = .next t → RunInvariant t

/-- The toggle invariant holds after power-on reset, in every configuration. -/
def Obligations.ToggledDefaultAtReset : Prop :=
  StateIsToggledDefault State.reset ∧ ∀ c, StateIsToggledDefault (powerOn c)

/-- Every step keeps it: STATE is DEFAULT XOR the masks of the groups that the run's TOGGLEs have named an odd number
of times since the last reset. -/
def Obligations.EveryStepKeepsToggledDefault : Prop :=
  ∀ s t, StateIsToggledDefault s → step s = .next t → StateIsToggledDefault t

/-- Every step keeps the lag of the outputs: OUT XOR STATE is the XOR of the masks of the TOGGLEs accepted since the
last commit. The premise `RunInvariant` is an invariant stated above. -/
def Obligations.EveryStepKeepsTheOutputLag : Prop :=
  OutputLagsByPendingToggles State.reset ∧
  ∀ s t, RunInvariant s → OutputLagsByPendingToggles s → step s = .next t → OutputLagsByPendingToggles t

/-- One SERVICE g: 52 steps after its two words are first in line, STATE and OUT are both the toggled word, one frame
has been committed, and the host has its next step. -/
def Obligations.ServiceTogglesAndCommits : Prop :=
  ∀ s w g m rest, HostTurn s → LinkOk s → s.serClk = false → s.serLatch = true →
    s.cmds = (0x40#8 ||| BitVec.ofNat 8 g) :: 0x80#8 :: rest → g < 8 → groupMask s.cfg g = some m →
    s.state = some w →
    ∃ t, runs 52 s = .next t ∧ HostTurn t ∧ t.cmds = rest ∧ t.state = some (w ^^^ m) ∧
      t.out = XWord.ofWord (w ^^^ m) ∧ t.rdata = s.rdata ∧
      commitsOf t.events = commitsOf s.events ++ [XWord.ofWord (w ^^^ m)]

/-- The frame trace of the control loop from power-on, for every valid configuration and every list of edge draws:
DEFAULT, then one frame per serviced edge in source order; STATE and OUT both end at the last element
(42_control_loop.md section 3). The form of polling is the model's choice (log entries 5 and 6), and so is that a source
which SRC_ORDER names twice is serviced, and its frame committed, once for each time it is named (log entry 21). -/
def Obligations.FrameTraceOfTheControlLoop : Prop :=
  ∀ (c : BlockConfig) (es : List (List Nat)), cfgCheck c.groups = 0#3 → (∀ g ∈ c.srcOrder, g < c.nGroups) →
    ∃ k t, runs k { powerOn c with edges := es, linkOk := true } = .next t ∧ HostTurn t ∧
      t.cmds = [] ∧ t.edges = [] ∧
      commitsOf t.events = (c.dflt :: framesOf c c.dflt es).map XWord.ofWord ∧
      t.state = some ((framesOf c c.dflt es).getLastD c.dflt) ∧
      t.out = XWord.ofWord ((framesOf c c.dflt es).getLastD c.dflt)

/-- Nothing stops a run: in every state that meets the invariant, with the block not halted and the run not refused, the
step answers a next state; and so does a reset, in every state (60_exceptions.md section 3, 70_reset_and_hazards.md
sections 1 and 4). The premise `RunInvariant` is an invariant stated above. -/
def Obligations.EveryRunningStepAnswers : Prop :=
  (∀ s, RunInvariant s → Running s → ∃ t, step s = .next t) ∧
  (∀ s, s.resetPin = true → ∃ t, step s = .next t)
end

