-- ==== Sys2Proof/Laws/State.lean ====
section
/-! SUPPORT. One lemma per field of State and named update: what the update leaves in the field. -/

namespace Sys2Proof.Machine

section emitFields

variable (s : State) (e : Event)

@[simp] theorem emit_cfg : (s.emit e).cfg = s.cfg := rfl
@[simp] theorem emit_state : (s.emit e).state = s.state := rfl
@[simp] theorem emit_frame : (s.emit e).frame = s.frame := rfl
@[simp] theorem emit_drv : (s.emit e).drv = s.drv := rfl
@[simp] theorem emit_busy : (s.emit e).busy = s.busy := rfl
@[simp] theorem emit_halted : (s.emit e).halted = s.halted := rfl
@[simp] theorem emit_cfgCause : (s.emit e).cfgCause = s.cfgCause := rfl
@[simp] theorem emit_rdata : (s.emit e).rdata = s.rdata := rfl
@[simp] theorem emit_serData : (s.emit e).serData = s.serData := rfl
@[simp] theorem emit_serClk : (s.emit e).serClk = s.serClk := rfl
@[simp] theorem emit_serLatch : (s.emit e).serLatch = s.serLatch := rfl
@[simp] theorem emit_sr : (s.emit e).sr = s.sr := rfl
@[simp] theorem emit_out : (s.emit e).out = s.out := rfl
@[simp] theorem emit_events : (s.emit e).events = s.events ++ [e] := rfl
@[simp] theorem emit_refused : (s.emit e).refused = s.refused := rfl
@[simp] theorem emit_linkOk : (s.emit e).linkOk = s.linkOk := rfl
@[simp] theorem emit_resetPin : (s.emit e).resetPin = s.resetPin := rfl
@[simp] theorem emit_cmds : (s.emit e).cmds = s.cmds := rfl
@[simp] theorem emit_edges : (s.emit e).edges = s.edges := rfl
@[simp] theorem emit_freeDraws : (s.emit e).freeDraws = s.freeDraws := rfl

end emitFields

section acceptFields

variable (s : State) (w : Command) (r : List Command)

@[simp] theorem accept_cfg : (s.accept w r).cfg = s.cfg := rfl
@[simp] theorem accept_state : (s.accept w r).state = s.state := rfl
@[simp] theorem accept_frame : (s.accept w r).frame = s.frame := rfl
@[simp] theorem accept_drv : (s.accept w r).drv = s.drv := rfl
@[simp] theorem accept_busy : (s.accept w r).busy = s.busy := rfl
@[simp] theorem accept_halted : (s.accept w r).halted = s.halted := rfl
@[simp] theorem accept_cfgCause : (s.accept w r).cfgCause = s.cfgCause := rfl
@[simp] theorem accept_rdata : (s.accept w r).rdata = s.rdata := rfl
@[simp] theorem accept_serData : (s.accept w r).serData = s.serData := rfl
@[simp] theorem accept_serClk : (s.accept w r).serClk = s.serClk := rfl
@[simp] theorem accept_serLatch : (s.accept w r).serLatch = s.serLatch := rfl
@[simp] theorem accept_sr : (s.accept w r).sr = s.sr := rfl
@[simp] theorem accept_out : (s.accept w r).out = s.out := rfl
@[simp] theorem accept_events : (s.accept w r).events = s.events ++ [.accept w] := rfl
@[simp] theorem accept_refused : (s.accept w r).refused = s.refused := rfl
@[simp] theorem accept_linkOk : (s.accept w r).linkOk = s.linkOk := rfl
@[simp] theorem accept_resetPin : (s.accept w r).resetPin = s.resetPin := rfl
@[simp] theorem accept_cmds : (s.accept w r).cmds = r := rfl
@[simp] theorem accept_edges : (s.accept w r).edges = s.edges := rfl
@[simp] theorem accept_freeDraws : (s.accept w r).freeDraws = s.freeDraws := rfl

end acceptFields

section driveDataFields

variable (b : Bool) (s : State)

@[simp] theorem driveData_cfg : (driveData b s).cfg = s.cfg := rfl
@[simp] theorem driveData_state : (driveData b s).state = s.state := rfl
@[simp] theorem driveData_frame : (driveData b s).frame = s.frame := rfl
@[simp] theorem driveData_drv : (driveData b s).drv = s.drv := rfl
@[simp] theorem driveData_busy : (driveData b s).busy = s.busy := rfl
@[simp] theorem driveData_halted : (driveData b s).halted = s.halted := rfl
@[simp] theorem driveData_cfgCause : (driveData b s).cfgCause = s.cfgCause := rfl
@[simp] theorem driveData_rdata : (driveData b s).rdata = s.rdata := rfl
@[simp] theorem driveData_serData : (driveData b s).serData = b := rfl
@[simp] theorem driveData_serClk : (driveData b s).serClk = s.serClk := rfl
@[simp] theorem driveData_serLatch : (driveData b s).serLatch = s.serLatch := rfl
@[simp] theorem driveData_sr : (driveData b s).sr = s.throughLink s.sr := rfl
@[simp] theorem driveData_out : (driveData b s).out = s.throughLink s.out := rfl
@[simp] theorem driveData_events : (driveData b s).events = s.events ++ [.line .serData b] := rfl
@[simp] theorem driveData_refused : (driveData b s).refused = s.refused := rfl
@[simp] theorem driveData_linkOk : (driveData b s).linkOk = s.linkOk := rfl
@[simp] theorem driveData_resetPin : (driveData b s).resetPin = s.resetPin := rfl
@[simp] theorem driveData_cmds : (driveData b s).cmds = s.cmds := rfl
@[simp] theorem driveData_edges : (driveData b s).edges = s.edges := rfl
@[simp] theorem driveData_freeDraws : (driveData b s).freeDraws = s.freeDraws := rfl

end driveDataFields

section driveClkFields

variable (b : Bool) (s : State)

@[simp] theorem driveClk_cfg : (driveClk b s).cfg = s.cfg := rfl
@[simp] theorem driveClk_state : (driveClk b s).state = s.state := rfl
@[simp] theorem driveClk_frame : (driveClk b s).frame = s.frame := rfl
@[simp] theorem driveClk_drv : (driveClk b s).drv = s.drv := rfl
@[simp] theorem driveClk_busy : (driveClk b s).busy = s.busy := rfl
@[simp] theorem driveClk_halted : (driveClk b s).halted = s.halted := rfl
@[simp] theorem driveClk_cfgCause : (driveClk b s).cfgCause = s.cfgCause := rfl
@[simp] theorem driveClk_rdata : (driveClk b s).rdata = s.rdata := rfl
@[simp] theorem driveClk_serData : (driveClk b s).serData = s.serData := rfl
@[simp] theorem driveClk_serClk : (driveClk b s).serClk = b := rfl
@[simp] theorem driveClk_serLatch : (driveClk b s).serLatch = s.serLatch := rfl
@[simp] theorem driveClk_sr : (driveClk b s).sr = s.throughLink (if !s.serClk && b then XWord.shiftIn s.sr s.serData else s.sr) := rfl
@[simp] theorem driveClk_out : (driveClk b s).out = s.throughLink s.out := rfl
@[simp] theorem driveClk_events : (driveClk b s).events = s.events ++ [.line .serClk b] := rfl
@[simp] theorem driveClk_refused : (driveClk b s).refused = s.refused := rfl
@[simp] theorem driveClk_linkOk : (driveClk b s).linkOk = s.linkOk := rfl
@[simp] theorem driveClk_resetPin : (driveClk b s).resetPin = s.resetPin := rfl
@[simp] theorem driveClk_cmds : (driveClk b s).cmds = s.cmds := rfl
@[simp] theorem driveClk_edges : (driveClk b s).edges = s.edges := rfl
@[simp] theorem driveClk_freeDraws : (driveClk b s).freeDraws = s.freeDraws := rfl

end driveClkFields

section driveLatchFields

variable (b : Bool) (s : State)

@[simp] theorem driveLatch_cfg : (driveLatch b s).cfg = s.cfg := rfl
@[simp] theorem driveLatch_state : (driveLatch b s).state = s.state := rfl
@[simp] theorem driveLatch_frame : (driveLatch b s).frame = s.frame := rfl
@[simp] theorem driveLatch_drv : (driveLatch b s).drv = s.drv := rfl
@[simp] theorem driveLatch_busy : (driveLatch b s).busy = s.busy := rfl
@[simp] theorem driveLatch_halted : (driveLatch b s).halted = s.halted := rfl
@[simp] theorem driveLatch_cfgCause : (driveLatch b s).cfgCause = s.cfgCause := rfl
@[simp] theorem driveLatch_rdata : (driveLatch b s).rdata = s.rdata := rfl
@[simp] theorem driveLatch_serData : (driveLatch b s).serData = s.serData := rfl
@[simp] theorem driveLatch_serClk : (driveLatch b s).serClk = s.serClk := rfl
@[simp] theorem driveLatch_serLatch : (driveLatch b s).serLatch = b := rfl
@[simp] theorem driveLatch_sr : (driveLatch b s).sr = s.throughLink s.sr := rfl
@[simp] theorem driveLatch_out : (driveLatch b s).out = s.throughLink (if !s.serLatch && b then s.sr else s.out) := rfl
@[simp] theorem driveLatch_events : (driveLatch b s).events = s.events ++ .line .serLatch b ::
      (if !s.serLatch && b then [.commit (s.throughLink s.sr)] else []) := rfl
@[simp] theorem driveLatch_refused : (driveLatch b s).refused = s.refused := rfl
@[simp] theorem driveLatch_linkOk : (driveLatch b s).linkOk = s.linkOk := rfl
@[simp] theorem driveLatch_resetPin : (driveLatch b s).resetPin = s.resetPin := rfl
@[simp] theorem driveLatch_cmds : (driveLatch b s).cmds = s.cmds := rfl
@[simp] theorem driveLatch_edges : (driveLatch b s).edges = s.edges := rfl
@[simp] theorem driveLatch_freeDraws : (driveLatch b s).freeDraws = s.freeDraws := rfl

end driveLatchFields

section pollSourcesFields

variable (s : State)

@[simp] theorem pollSources_cfg : (pollSources s).cfg = s.cfg := rfl
@[simp] theorem pollSources_state : (pollSources s).state = s.state := rfl
@[simp] theorem pollSources_frame : (pollSources s).frame = s.frame := rfl
@[simp] theorem pollSources_drv : (pollSources s).drv = s.drv := rfl
@[simp] theorem pollSources_busy : (pollSources s).busy = s.busy := rfl
@[simp] theorem pollSources_halted : (pollSources s).halted = s.halted := rfl
@[simp] theorem pollSources_cfgCause : (pollSources s).cfgCause = s.cfgCause := rfl
@[simp] theorem pollSources_rdata : (pollSources s).rdata = s.rdata := rfl
@[simp] theorem pollSources_serData : (pollSources s).serData = s.serData := rfl
@[simp] theorem pollSources_serClk : (pollSources s).serClk = s.serClk := rfl
@[simp] theorem pollSources_serLatch : (pollSources s).serLatch = s.serLatch := rfl
@[simp] theorem pollSources_sr : (pollSources s).sr = s.sr := rfl
@[simp] theorem pollSources_out : (pollSources s).out = s.out := rfl
@[simp] theorem pollSources_events : (pollSources s).events = s.events := rfl
@[simp] theorem pollSources_refused : (pollSources s).refused = s.refused := rfl
@[simp] theorem pollSources_linkOk : (pollSources s).linkOk = s.linkOk := rfl
@[simp] theorem pollSources_resetPin : (pollSources s).resetPin = s.resetPin := rfl
@[simp] theorem pollSources_cmds : (pollSources s).cmds = iterationCommands s.cfg (s.edges.headD []) := rfl
@[simp] theorem pollSources_edges : (pollSources s).edges = s.edges.tail := rfl
@[simp] theorem pollSources_freeDraws : (pollSources s).freeDraws = s.freeDraws := rfl

end pollSourcesFields

section beginRunFields

variable (s : State)

@[simp] theorem beginRun_cfg : (beginRun s).cfg = s.cfg := rfl
@[simp] theorem beginRun_state : (beginRun s).state = s.state := rfl
@[simp] theorem beginRun_frame : (beginRun s).frame = s.frame := rfl
@[simp] theorem beginRun_drv : (beginRun s).drv = s.drv := rfl
@[simp] theorem beginRun_busy : (beginRun s).busy = s.busy := rfl
@[simp] theorem beginRun_halted : (beginRun s).halted = s.halted := rfl
@[simp] theorem beginRun_cfgCause : (beginRun s).cfgCause = s.cfgCause := rfl
@[simp] theorem beginRun_rdata : (beginRun s).rdata = s.rdata := rfl
@[simp] theorem beginRun_serData : (beginRun s).serData = s.serData := rfl
@[simp] theorem beginRun_serClk : (beginRun s).serClk = s.serClk := rfl
@[simp] theorem beginRun_serLatch : (beginRun s).serLatch = s.serLatch := rfl
@[simp] theorem beginRun_sr : (beginRun s).sr = s.sr := rfl
@[simp] theorem beginRun_out : (beginRun s).out = XWord.noValue := rfl
@[simp] theorem beginRun_events : (beginRun s).events = [] := rfl
@[simp] theorem beginRun_refused : (beginRun s).refused = s.refused := rfl
@[simp] theorem beginRun_linkOk : (beginRun s).linkOk = s.linkOk := rfl
@[simp] theorem beginRun_resetPin : (beginRun s).resetPin = false := rfl
@[simp] theorem beginRun_cmds : (beginRun s).cmds = s.cmds := rfl
@[simp] theorem beginRun_edges : (beginRun s).edges = s.edges := rfl
@[simp] theorem beginRun_freeDraws : (beginRun s).freeDraws = s.freeDraws := rfl

end beginRunFields

section raiseCfgDefectFields

variable (c : BitVec 3) (s : State)

@[simp] theorem raiseCfgDefect_cfg : (raiseCfgDefect c s).cfg = s.cfg := rfl
@[simp] theorem raiseCfgDefect_state : (raiseCfgDefect c s).state = none := rfl
@[simp] theorem raiseCfgDefect_frame : (raiseCfgDefect c s).frame = none := rfl
@[simp] theorem raiseCfgDefect_drv : (raiseCfgDefect c s).drv = .idle := rfl
@[simp] theorem raiseCfgDefect_busy : (raiseCfgDefect c s).busy = false := rfl
@[simp] theorem raiseCfgDefect_halted : (raiseCfgDefect c s).halted = true := rfl
@[simp] theorem raiseCfgDefect_cfgCause : (raiseCfgDefect c s).cfgCause = c := rfl
@[simp] theorem raiseCfgDefect_rdata : (raiseCfgDefect c s).rdata = none := rfl
@[simp] theorem raiseCfgDefect_serData : (raiseCfgDefect c s).serData = false := rfl
@[simp] theorem raiseCfgDefect_serClk : (raiseCfgDefect c s).serClk = false := rfl
@[simp] theorem raiseCfgDefect_serLatch : (raiseCfgDefect c s).serLatch = true := rfl
@[simp] theorem raiseCfgDefect_sr : (raiseCfgDefect c s).sr = s.sr := rfl
@[simp] theorem raiseCfgDefect_out : (raiseCfgDefect c s).out = s.out := rfl
@[simp] theorem raiseCfgDefect_events : (raiseCfgDefect c s).events = s.events ++ [.cfgDefect c] := rfl
@[simp] theorem raiseCfgDefect_refused : (raiseCfgDefect c s).refused = s.refused := rfl
@[simp] theorem raiseCfgDefect_linkOk : (raiseCfgDefect c s).linkOk = s.linkOk := rfl
@[simp] theorem raiseCfgDefect_resetPin : (raiseCfgDefect c s).resetPin = s.resetPin := rfl
@[simp] theorem raiseCfgDefect_cmds : (raiseCfgDefect c s).cmds = s.cmds := rfl
@[simp] theorem raiseCfgDefect_edges : (raiseCfgDefect c s).edges = s.edges := rfl
@[simp] theorem raiseCfgDefect_freeDraws : (raiseCfgDefect c s).freeDraws = s.freeDraws := rfl

end raiseCfgDefectFields

section loadResetValuesFields

variable (s : State)

@[simp] theorem loadResetValues_cfg : (loadResetValues s).cfg = s.cfg := rfl
@[simp] theorem loadResetValues_state : (loadResetValues s).state = some s.cfg.dflt := rfl
@[simp] theorem loadResetValues_frame : (loadResetValues s).frame = none := rfl
@[simp] theorem loadResetValues_drv : (loadResetValues s).drv = .start := rfl
@[simp] theorem loadResetValues_busy : (loadResetValues s).busy = true := rfl
@[simp] theorem loadResetValues_halted : (loadResetValues s).halted = false := rfl
@[simp] theorem loadResetValues_cfgCause : (loadResetValues s).cfgCause = 0#3 := rfl
@[simp] theorem loadResetValues_rdata : (loadResetValues s).rdata = none := rfl
@[simp] theorem loadResetValues_serData : (loadResetValues s).serData = false := rfl
@[simp] theorem loadResetValues_serClk : (loadResetValues s).serClk = false := rfl
@[simp] theorem loadResetValues_serLatch : (loadResetValues s).serLatch = true := rfl
@[simp] theorem loadResetValues_sr : (loadResetValues s).sr = s.sr := rfl
@[simp] theorem loadResetValues_out : (loadResetValues s).out = s.out := rfl
@[simp] theorem loadResetValues_events : (loadResetValues s).events = s.events := rfl
@[simp] theorem loadResetValues_refused : (loadResetValues s).refused = s.refused := rfl
@[simp] theorem loadResetValues_linkOk : (loadResetValues s).linkOk = s.linkOk := rfl
@[simp] theorem loadResetValues_resetPin : (loadResetValues s).resetPin = s.resetPin := rfl
@[simp] theorem loadResetValues_cmds : (loadResetValues s).cmds = s.cmds := rfl
@[simp] theorem loadResetValues_edges : (loadResetValues s).edges = s.edges := rfl
@[simp] theorem loadResetValues_freeDraws : (loadResetValues s).freeDraws = s.freeDraws := rfl

end loadResetValuesFields

section refuseIllegalFields

variable (w : Command) (s : State)

@[simp] theorem refuseIllegal_cfg : (refuseIllegal w s).cfg = s.cfg := rfl
@[simp] theorem refuseIllegal_state : (refuseIllegal w s).state = none := rfl
@[simp] theorem refuseIllegal_frame : (refuseIllegal w s).frame = none := rfl
@[simp] theorem refuseIllegal_drv : (refuseIllegal w s).drv = Config.afterRefusalDrv s.freeDraws := rfl
@[simp] theorem refuseIllegal_busy : (refuseIllegal w s).busy = Config.afterRefusalBit s.freeDraws 0 := rfl
@[simp] theorem refuseIllegal_halted : (refuseIllegal w s).halted = Config.afterRefusalBit s.freeDraws 1 := rfl
@[simp] theorem refuseIllegal_cfgCause : (refuseIllegal w s).cfgCause = Config.afterRefusalCause s.freeDraws := rfl
@[simp] theorem refuseIllegal_rdata : (refuseIllegal w s).rdata = none := rfl
@[simp] theorem refuseIllegal_serData : (refuseIllegal w s).serData = Config.afterRefusalBit s.freeDraws 2 := rfl
@[simp] theorem refuseIllegal_serClk : (refuseIllegal w s).serClk = Config.afterRefusalBit s.freeDraws 3 := rfl
@[simp] theorem refuseIllegal_serLatch : (refuseIllegal w s).serLatch = Config.afterRefusalBit s.freeDraws 4 := rfl
@[simp] theorem refuseIllegal_sr : (refuseIllegal w s).sr = XWord.noValue := rfl
@[simp] theorem refuseIllegal_out : (refuseIllegal w s).out = XWord.noValue := rfl
@[simp] theorem refuseIllegal_events : (refuseIllegal w s).events = s.events ++ [.refused w] := rfl
@[simp] theorem refuseIllegal_refused : (refuseIllegal w s).refused = some w := rfl
@[simp] theorem refuseIllegal_linkOk : (refuseIllegal w s).linkOk = s.linkOk := rfl
@[simp] theorem refuseIllegal_resetPin : (refuseIllegal w s).resetPin = s.resetPin := rfl
@[simp] theorem refuseIllegal_cmds : (refuseIllegal w s).cmds = s.cmds := rfl
@[simp] theorem refuseIllegal_edges : (refuseIllegal w s).edges = s.edges := rfl
@[simp] theorem refuseIllegal_freeDraws : (refuseIllegal w s).freeDraws = s.freeDraws + 1 := rfl

end refuseIllegalFields

section writeAtomicFields

variable (w : Word) (s : State)

@[simp] theorem writeAtomic_cfg : (writeAtomic w s).cfg = s.cfg := rfl
@[simp] theorem writeAtomic_state : (writeAtomic w s).state = s.state := rfl
@[simp] theorem writeAtomic_frame : (writeAtomic w s).frame = s.frame := rfl
@[simp] theorem writeAtomic_drv : (writeAtomic w s).drv = s.drv := rfl
@[simp] theorem writeAtomic_busy : (writeAtomic w s).busy = false := rfl
@[simp] theorem writeAtomic_halted : (writeAtomic w s).halted = s.halted := rfl
@[simp] theorem writeAtomic_cfgCause : (writeAtomic w s).cfgCause = s.cfgCause := rfl
@[simp] theorem writeAtomic_rdata : (writeAtomic w s).rdata = s.rdata := rfl
@[simp] theorem writeAtomic_serData : (writeAtomic w s).serData = w.getLsbD 0 := rfl
@[simp] theorem writeAtomic_serClk : (writeAtomic w s).serClk = false := rfl
@[simp] theorem writeAtomic_serLatch : (writeAtomic w s).serLatch = true := rfl
@[simp] theorem writeAtomic_sr : (writeAtomic w s).sr = XWord.ofWord w := rfl
@[simp] theorem writeAtomic_out : (writeAtomic w s).out = XWord.ofWord w := rfl
@[simp] theorem writeAtomic_events : (writeAtomic w s).events = s.events ++ [.commit (XWord.ofWord w)] := rfl
@[simp] theorem writeAtomic_refused : (writeAtomic w s).refused = s.refused := rfl
@[simp] theorem writeAtomic_linkOk : (writeAtomic w s).linkOk = s.linkOk := rfl
@[simp] theorem writeAtomic_resetPin : (writeAtomic w s).resetPin = s.resetPin := rfl
@[simp] theorem writeAtomic_cmds : (writeAtomic w s).cmds = s.cmds := rfl
@[simp] theorem writeAtomic_edges : (writeAtomic w s).edges = s.edges := rfl
@[simp] theorem writeAtomic_freeDraws : (writeAtomic w s).freeDraws = s.freeDraws := rfl

end writeAtomicFields

end Sys2Proof.Machine
end

