-- ==== Sys2Proof/Laws/Ops.lean ====
section
/-! SUPPORT. For each shared operation, each meaning and the step: one lemma that says once everything it can do. -/

namespace Sys2Proof

@[simp] theorem XWord.noValue_get (k : Nat) (h : k < 16) : XWord.noValue[k] = none := by
  simp [XWord.noValue]

@[simp] theorem XWord.ofWord_get (w : Word) (k : Nat) (h : k < 16) : (XWord.ofWord w)[k] = some w[k] := by
  simp [XWord.ofWord]

theorem XWord.shiftIn_zero (x : XWord) (d : Bool) : (XWord.shiftIn x d)[0] = some d := by
  simp [XWord.shiftIn]

theorem XWord.shiftIn_succ (x : XWord) (d : Bool) (k : Nat) (h : k + 1 < 16) :
    (XWord.shiftIn x d)[k + 1] = x[k] := by
  simp [XWord.shiftIn]

/-- A word with all bits known determines the word. -/
theorem XWord.ofWord_injective {v w : Word} (h : XWord.ofWord v = XWord.ofWord w) : v = w := by
  apply BitVec.eq_of_getElem_eq
  intro k hk
  have hget := congrArg (fun x : XWord => x[k]) h
  simpa using hget

/-- An illegal decoding carries the word decoded. -/
theorem decode_illegal_word {n : Nat} {w v : Command} {why : IllegalReason} (h : decode n w = .illegal why v) :
    v = w := by
  unfold decode decodePlain decodeToggle at h
  split_ifs at h <;> simp_all

namespace Machine

@[simp] theorem throughLink_ok {s : State} (h : s.linkOk = true) (x : XWord) : s.throughLink x = x := by
  simp [State.throughLink, h]

@[simp] theorem throughLink_broken {s : State} (h : s.linkOk = false) (x : XWord) :
    s.throughLink x = XWord.noValue := by
  simp [State.throughLink, h]

@[simp] theorem resetBlock_valid {s : State} (h : cfgCheck s.cfg.groups = 0#3) :
    resetBlock s = loadResetValues (beginRun s) := by
  simp [resetBlock, h]

@[simp] theorem resetBlock_invalid {s : State} (h : cfgCheck s.cfg.groups ≠ 0#3) :
    resetBlock s = raiseCfgDefect (cfgCheck s.cfg.groups) (beginRun s) := by
  simp [resetBlock, h]

/-- A reset leaves the refusal mark as it is. -/
@[simp] theorem resetBlock_refused (s : State) : (resetBlock s).refused = s.refused := by
  by_cases h : cfgCheck s.cfg.groups = 0#3 <;> simp [resetBlock, h]

/-- A reset releases the reset input. -/
@[simp] theorem resetBlock_resetPin (s : State) : (resetBlock s).resetPin = false := by
  by_cases h : cfgCheck s.cfg.groups = 0#3 <;> simp [resetBlock, h]

theorem execNop_next {s t : State} (h : execNop s = .next t) : t = s := by
  simpa [execNop, eq_comm] using h

theorem execToggle_next {g : Nat} {s t : State} (h : execToggle g s = .next t) :
    ∃ m w, groupMask s.cfg g = some m ∧ s.state = some w ∧ t = { s with state := some (w ^^^ m) } := by
  unfold execToggle at h
  split at h
  · cases h
  · cases h
  · rename_i m w hm hw
    exact ⟨m, w, hm, hw, by simpa [eq_comm] using h⟩

theorem execRead_next {s t : State} (h : execRead s = .next t) :
    ∃ w, s.state = some w ∧ t = State.emit { s with rdata := some w } (.read w) := by
  unfold execRead at h
  split at h
  · cases h
  · rename_i w hw
    exact ⟨w, hw, by simpa [eq_comm] using h⟩

theorem execWrite_next {s t : State} (h : execWrite s = .next t) : t = { s with busy := true, drv := .start } := by
  simpa [execWrite, eq_comm] using h

/-- What a command can do when it answers a next state. -/
theorem exec_next {i : Instr} {s t : State} (h : exec i s = .next t) :
    (i = .nop ∧ t = s) ∨
    (∃ g m w, i = .toggle g ∧ groupMask s.cfg g = some m ∧ s.state = some w ∧
      t = { s with state := some (w ^^^ m) }) ∨
    (i = .write ∧ t = { s with busy := true, drv := .start }) ∨
    (∃ w, i = .read ∧ s.state = some w ∧ t = State.emit { s with rdata := some w } (.read w)) := by
  cases i with
  | nop => exact .inl ⟨rfl, execNop_next h⟩
  | toggle g =>
    obtain ⟨m, w, hm, hw, ht⟩ := execToggle_next h
    exact .inr (.inl ⟨g, m, w, rfl, hm, hw, ht⟩)
  | write => exact .inr (.inr (.inl ⟨rfl, execWrite_next h⟩))
  | read =>
    obtain ⟨w, hw, ht⟩ := execRead_next h
    exact .inr (.inr (.inr ⟨w, rfl, hw, ht⟩))

/-- What a driver step can do when it answers a next state. -/
theorem driverStep_next {s t : State} (h : driverStep s = .next t) :
    (∃ w, s.drv = .start ∧ s.state = some w ∧
      t = { driveLatch false s with frame := some w, drv := .data 15 }) ∨
    (∃ k f, s.drv = .data k ∧ s.frame = some f ∧ t = { driveData (f.getLsbD k.val) s with drv := .clkHi k }) ∨
    (∃ k, s.drv = .clkHi k ∧ t = { driveClk true s with drv := .clkLo k }) ∨
    (∃ k, s.drv = .clkLo k ∧ t = { driveClk false s with drv := Drv.next (.clkLo k) }) ∨
    (s.drv = .commit ∧ t = { driveLatch true s with frame := none, busy := false, drv := .idle }) := by
  cases hd : s.drv with
  | idle => simp [driverStep, hd] at h
  | start =>
    cases hw : s.state with
    | none => simp [driverStep, hd, driverStart, hw] at h
    | some w =>
      simp only [driverStep, hd, driverStart, hw, Host.Outcome.next.injEq] at h
      exact .inl ⟨w, rfl, rfl, h.symm⟩
  | data k =>
    cases hf : s.frame with
    | none => simp [driverStep, hd, driverData, hf] at h
    | some f =>
      simp only [driverStep, hd, driverData, hf, Host.Outcome.next.injEq] at h
      exact .inr (.inl ⟨k, f, rfl, rfl, h.symm⟩)
  | clkHi k =>
    simp only [driverStep, hd, driverClkHi, Host.Outcome.next.injEq] at h
    exact .inr (.inr (.inl ⟨k, rfl, h.symm⟩))
  | clkLo k =>
    simp only [driverStep, hd, driverClkLo, Host.Outcome.next.injEq] at h
    exact .inr (.inr (.inr (.inl ⟨k, rfl, h.symm⟩)))
  | commit =>
    simp only [driverStep, hd, driverCommit, Host.Outcome.next.injEq] at h
    exact .inr (.inr (.inr (.inr ⟨rfl, h.symm⟩)))

/-- What a host step can do when it answers a next state. -/
theorem hostStep_next {s t : State} (h : hostStep s = .next t) :
    (s.cmds = [] ∧ t = pollSources s) ∨
    (∃ w rest i, s.cmds = w :: rest ∧ decode s.cfg.nGroups w = .legal i ∧ exec i (s.accept w rest) = .next t) ∨
    (∃ w rest why, s.cmds = w :: rest ∧ decode s.cfg.nGroups w = .illegal why w ∧
      t = refuseIllegal w (s.accept w rest)) := by
  unfold hostStep at h
  split at h
  · rename_i hc
    exact .inl ⟨hc, by simpa [eq_comm] using h⟩
  · rename_i w rest hc
    cases hd : decode s.cfg.nGroups w with
    | legal i => exact .inr (.inl ⟨w, rest, i, hc, hd, by simpa [hd] using h⟩)
    | illegal why v =>
      obtain rfl := decode_illegal_word hd
      exact .inr (.inr ⟨v, rest, why, hc, hd, by simpa [hd, eq_comm] using h⟩)

/-- What a step can do when it answers a next state. -/
theorem step_next {s t : State} (h : step s = .next t) :
    (s.resetPin = true ∧ t = resetBlock s) ∨
    (DriverTurn s ∧ driverStep s = .next t) ∨
    (HostTurn s ∧ hostStep s = .next t) := by
  unfold step agentStep at h
  by_cases hp : s.resetPin = true
  · exact .inl ⟨hp, by simpa [hp, eq_comm] using h⟩
  · simp only [hp, Bool.false_eq_true, if_false] at h
    cases hr : s.refused with
    | some w => simp [hr] at h
    | none =>
      simp only [hr] at h
      by_cases hh : s.halted = true
      · simp [hh] at h
      · simp only [hh, Bool.false_eq_true, if_false] at h
        have hrun : Running s := ⟨by simpa using hp, hr, by simpa using hh⟩
        by_cases hd : s.drv ≠ .idle
        · exact .inr (.inl ⟨⟨hrun, hd⟩, by simpa [hd] using h⟩)
        · simp only [hd, if_false] at h
          by_cases hb : s.ready = true
          · simp only [hb, if_true] at h
            refine .inr (.inr ⟨⟨hrun, not_not.mp hd, ?_⟩, h⟩)
            have := hb
            simp [State.ready] at this
            exact this.1
          · simp [hb] at h

/-- In the driver's turn a step is a driver step. -/
theorem step_driver {s : State} (h : DriverTurn s) : step s = driverStep s := by
  simp [step, agentStep, h.noReset, h.notRefused, h.notHalted, h.active]

/-- In the host's turn a step is a host step. -/
theorem step_host {s : State} (h : HostTurn s) : step s = hostStep s := by
  simp [step, agentStep, h.noReset, h.notRefused, h.notHalted, h.idle, State.ready, h.notBusy]

/-- With reset asserted a step is a reset. -/
theorem step_reset {s : State} (h : s.resetPin = true) : step s = .next (resetBlock s) := by
  simp [step, agentStep, h]

@[simp] theorem runs_zero (s : State) : runs 0 s = .next s := rfl

/-- One step, then the rest. -/
theorem runs_succ {s t : State} (k : Nat) (h : step s = .next t) : runs (k + 1) s = runs k t := by
  have : Sys2Proof.core.step s = .next t := h
  simp only [runs, Host.Core.run, this]
  rfl

/-- A run of `j + k` steps is a run of `j` and then one of `k`. -/
theorem runs_add {s t : State} (j k : Nat) (h : runs j s = .next t) : runs (j + k) s = runs k t := by
  induction j generalizing s with
  | zero => simp only [runs_zero, Host.Outcome.next.injEq] at h; simp [h]
  | succ j ih =>
    cases hs : step s with
    | next u =>
      rw [runs_succ j hs] at h
      rw [show j + 1 + k = (j + k) + 1 by omega, runs_succ _ hs, ih h]
    | fault r =>
      have : Sys2Proof.core.step s = .fault r := hs
      simp [runs, Host.Core.run, this] at h
    | refused r =>
      have : Sys2Proof.core.step s = .refused r := hs
      simp [runs, Host.Core.run, this] at h

end Machine

end Sys2Proof
end

