-- ==== Sys2Proof/Laws/PerInstr.lean ====
section
/-! SUPPORT. What is said of every command term, one lemma per constructor: the fields of its word
(30_encoding.md R71, R73). -/

namespace Sys2Proof.Laws

/-- The OP field of a command's word (30_encoding.md R73). -/
def opOf : Instr → BitVec 2
  | .nop => 0b00#2
  | .toggle _ => 0b01#2
  | .write => 0b10#2
  | .read => 0b11#2

/-- The word of a command has its OP, RSV = 000, and GID = 000 unless it is a TOGGLE. -/
def WordFields.Statement (i : Instr) : Prop :=
  opField (encode i) = opOf i ∧ rsvField (encode i) = 0#3 ∧ (opOf i ≠ 0b01#2 → gidField (encode i) = 0#3)

theorem WordFields.nop : WordFields.Statement .nop := by
  refine ⟨?_, ?_, fun _ => ?_⟩ <;> decide

theorem WordFields.toggle (g : Nat) : WordFields.Statement (.toggle g) := by
  have key : ∀ v : BitVec 3, opField (0b01#2 ++ 0b000#3 ++ v) = 0b01#2 ∧ rsvField (0b01#2 ++ 0b000#3 ++ v) = 0#3 := by
    decide
  exact ⟨(key _).1, (key _).2, fun h => absurd rfl h⟩

theorem WordFields.write : WordFields.Statement .write := by
  refine ⟨?_, ?_, fun _ => ?_⟩ <;> decide

theorem WordFields.read : WordFields.Statement .read := by
  refine ⟨?_, ?_, fun _ => ?_⟩ <;> decide

end Sys2Proof.Laws
end

