-- ==== Sys2Proof/Tests/Slice0.lean ====
section
/-! SUPPORT. Tests: expected results are the spec's worked vectors (95_test_vectors.md) or hand calculation from its
rules. Then, for each statement with hypotheses, a witness that meets them. -/

namespace Sys2Proof.Tests

open Sys2Proof.Machine

/-! Small states. -/

/-- After the initial write of the reference configuration: P1's start state (95_test_vectors.md section 3). -/
def idle : State :=
  { State.reset with
    drv := .idle
    busy := false
    sr := XWord.ofWord 0x4924#16
    out := XWord.ofWord 0x4924#16
    events := writeTrace 0x4924#16 }

/-- The host is about to issue these words. -/
def issuing (ws : List Command) : State := { idle with cmds := ws }

/-- A write of 0x4923 in progress, the next driver step being `d`. -/
def writing (d : Drv) : State :=
  { idle with
    state := some 0x4923#16
    frame := some 0x4923#16
    drv := d
    busy := true
    serLatch := false }

/-- The reset input is asserted, with group table `gs`. -/
def resetting (gs : List BitGroup) : State :=
  { idle with resetPin := true, cfg := { BlockConfig.reference with groups := gs } }

/-- A halted block: an invalid configuration was found at reset. -/
def halted : State := powerOn { BlockConfig.reference with groups := [⟨0, 0, 16⟩] }

/-! Well-formedness: an ill-formed term for each check. -/

theorem test_wf_refuses_gid_too_wide : (Instr.toggle 8).gidFits = false ∧ (Instr.toggle 8).wellFormed 9 = false := by
  decide

theorem test_wf_refuses_unknown_group :
    (Instr.toggle 5).gidConfigured 5 = false ∧ (Instr.toggle 5).wellFormed 5 = false := by decide

theorem test_wf_accepts_last_group : (Instr.toggle 4).wellFormed 5 = true := by decide

/-! Decoding, words written out from 30_encoding.md R71 and R73. -/

theorem test_decode_nop : decode 5 0b00000000#8 = .legal .nop := by decide
theorem test_decode_toggle : decode 5 0b01000100#8 = .legal (.toggle 4) := by decide
theorem test_decode_write : decode 5 0b10000000#8 = .legal .write := by decide
theorem test_decode_read : decode 5 0b11000000#8 = .legal .read := by decide

/-- V-E4, V-E6, V-E8, V-E10, V-E14. -/
theorem test_decode_illegal :
    decode 5 0x45#8 = .illegal .unknownGroup 0x45#8 ∧ decode 5 0x48#8 = .illegal .reservedField 0x48#8 ∧
    decode 5 0x81#8 = .illegal .operandNotZero 0x81#8 ∧ decode 5 0xC7#8 = .illegal .operandNotZero 0xC7#8 ∧
    decode 5 0xFF#8 = .illegal .reservedField 0xFF#8 := by decide

theorem test_decode_table_word : decodeTableWord 8 0x40 = some (.toggle 0) ∧ decodeTableWord 16 0x40 = none := by decide

/-! The assembler, 30_encoding.md R79 and R80. -/

theorem test_assemble_service :
    assembleLine 5 ['S', 'E', 'R', 'V', 'I', 'C', 'E', ' ', '2', ' ', ';', 'x'] = some [0x42#8, 0x80#8] := by decide

theorem test_assemble_refuses :
    assembleLine 5 ['T', 'O', 'G', 'G', 'L', 'E', ' ', '5'] = none ∧ assembleLine 5 ['n', 'o', 'p'] = none ∧
    assembleLine 5 [';'] = some [] := by decide

/-! Commands. -/

/-- V-N1. -/
theorem test_nop : step (issuing [0x00#8]) =
    .next { idle with events := writeTrace 0x4924#16 ++ [.accept 0x00#8] } := by rfl

/-- V-T1. -/
theorem test_toggle : step (issuing [0x40#8]) = .next { idle with
    state := some 0x4923#16, events := writeTrace 0x4924#16 ++ [.accept 0x40#8] } := by rfl

/-- V-T8: bit 15 belongs to no group. -/
theorem test_toggle_high_group : exec (.toggle 4) { idle with state := some 0x8000#16 } =
    .next { idle with state := some 0xF000#16 } := by rfl

/-- V-R2: READ returns the toggled word while OUT keeps the old frame. -/
theorem test_read : exec .read { idle with state := some 0x491C#16 } = .next { idle with
    state := some 0x491C#16, rdata := some 0x491C#16, events := writeTrace 0x4924#16 ++ [.read 0x491C#16] } := by rfl

theorem test_write : exec .write idle = .next { idle with busy := true, drv := .start } := by rfl

/-- The first step of the initial write. -/
theorem test_driver_start : step State.reset = .next { State.reset with
    frame := some 0x4924#16, serLatch := false, drv := .data 15, events := [.line .serLatch false] } := by rfl

/-- V-W2, first edge: bit 15 of 0x4923 is 0. -/
theorem test_driver_shift : step (writing (.clkHi 15)) = .next { writing (.clkLo 15) with
    serClk := true, sr := XWord.ofWord 0x9248#16, events := writeTrace 0x4924#16 ++ [.line .serClk true] } := by
  rfl

/-- P5: an illegal word is accepted, refused, and ends the run. -/
theorem test_illegal_word :
    (match step (issuing [0x45#8]) with
      | .next t => t.events = writeTrace 0x4924#16 ++ [.accept 0x45#8, .refused 0x45#8] ∧
          step t = .refused (.illegalCommand 0x45#8)
      | .fault _ => False
      | .refused _ => False) := ⟨rfl, rfl⟩

/-- A reset is a step, and no step clears the mark (60_exceptions.md R173). -/
theorem test_reset_keeps_mark :
    (match step { resetting BlockConfig.reference.groups with refused := some 0x45#8 } with
      | .next t => t.refused = some 0x45#8 ∧ t.state = some 0x4924#16 ∧ step t = .refused (.illegalCommand 0x45#8)
      | .fault _ => False
      | .refused _ => False) := ⟨rfl, rfl, rfl⟩

/-- The atomic write emits its `Commit` (41_serial_driver.md R134). -/
theorem test_write_atomic : (writeAtomic 0x4923#16 idle).events =
    writeTrace 0x4924#16 ++ [.commit (XWord.ofWord 0x4923#16)] := by rfl

theorem test_fetch_word : step (State.reset.withFetchWord 8 0xC0) = .next { State.reset with
    drv := .idle, busy := false, rdata := some 0x4924#16, events := [.accept 0xC0#8, .read 0x4924#16] } := by rfl

/-- V-L5's iteration: E = {0, 2}, given in another order. -/
theorem test_iteration : iterationCommands BlockConfig.reference [2, 0] = [0x40#8, 0x80#8, 0x42#8, 0x80#8] := by decide

theorem test_frames : framesOf BlockConfig.reference 0x4924#16 [[0, 2], [], [4, 1]] =
    [0x4923#16, 0x48E3#16, 0x48DB#16, 0x38DB#16] := by decide

/-! Configuration check and reset. -/

/-- V-C1 to V-C10. -/
theorem test_cfg_check :
    cfgCheck BlockConfig.reference.groups = 0#3 ∧ cfgCheck [⟨0, 1, 16⟩] = 2#3 ∧ cfgCheck [⟨0, 0, 1⟩] = 3#3 ∧
    cfgCheck [⟨0, 1, 2⟩, ⟨2, 3, 4⟩] = 4#3 ∧ cfgCheck [] = 1#3 ∧ cfgCheck [⟨0, 0, 16⟩] = 2#3 ∧
    cfgCheck (BlockConfig.reference.groups ++ [⟨15, 15, 15⟩]) = 3#3 ∧ cfgCheck [⟨0, 1, 2⟩, ⟨3, 4, 16⟩] = 2#3 ∧
    cfgCheck (List.replicate 9 ⟨0, 1, 2⟩) = 1#3 ∧ cfgCheck [⟨13, 14, 15⟩] = 0#3 := by decide

theorem test_power_on : powerOn BlockConfig.reference = State.reset := by rfl

theorem test_halted : halted.halted = true ∧ halted.cfgCause = 2#3 ∧ halted.state = none ∧ halted.ready = false ∧
    halted.status = 0b00001010#8 ∧ step halted = .fault (.halted 2#3) :=
  ⟨by decide, by decide, by decide, by decide, by decide, rfl⟩

/-! Witnesses for the statements' hypotheses, by the statement's name. -/

theorem running_idle : Running idle := ⟨rfl, rfl, rfl⟩
theorem hostTurn_issuing (ws : List Command) : HostTurn (issuing ws) := ⟨⟨rfl, rfl, rfl⟩, rfl, rfl⟩
theorem linkOk_idle : LinkOk idle := rfl

theorem reference_valid : ValidGroups BlockConfig.reference.groups where
  inRange := by decide
  distinct := by decide
  disjoint := by
    intro g h b c hb hc hne i hi hic
    obtain ⟨hg, rfl⟩ := List.getElem?_eq_some_iff.mp hb
    obtain ⟨hh, rfl⟩ := List.getElem?_eq_some_iff.mp hc
    have key : ∀ g h : Fin 5, g ≠ h → ∀ i ∈ BlockConfig.reference.groups[g].indices,
        i ∉ BlockConfig.reference.groups[h].indices := by decide
    exact key ⟨g, hg⟩ ⟨h, hh⟩ (fun e => hne (congrArg Fin.val e)) i hi hic

theorem witness_LegalWordsAreThreePlusGroups : (8 : Nat) ≤ 8 := by decide

theorem witness_AssemblerEmitsCommandWords :
    (Instr.toggle 4).wellFormed 5 = true ∧ ((4 : Nat) < 8 ∧ (4 : Nat) < 5) ∧ ((7 : Nat) < 8 ∧ (5 : Nat) ≤ 7) := by decide

theorem witness_StepRunsTheDecodedCommand : HostTurn (issuing [0xC0#8]) ∧ (issuing [0xC0#8]).cmds = 0xC0#8 :: [] ∧
    decode (issuing [0xC0#8]).cfg.nGroups 0xC0#8 = .legal .read := ⟨hostTurn_issuing _, rfl, by decide⟩

theorem witness_BusyAndHaltedHoldTheHost_hold : State.reset.resetPin = false ∧ State.reset.ready = false ∧
    ∃ t, step State.reset = .next t := ⟨rfl, rfl, _, rfl⟩

theorem witness_BusyAndHaltedHoldTheHost_commit : DriverTurn (writing .commit) ∧ (writing .commit).drv = .commit :=
  ⟨⟨⟨rfl, rfl, rfl⟩, nofun⟩, rfl⟩

theorem witness_BusyAndHaltedHoldTheHost_other : DriverTurn (writing (.clkLo 0)) ∧ (writing (.clkLo 0)).drv ≠ .commit ∧
    ∃ t, step (writing (.clkLo 0)) = .next t := ⟨⟨⟨rfl, rfl, rfl⟩, nofun⟩, nofun, _, rfl⟩

theorem witness_BusyAndHaltedHoldTheHost_halted : halted.resetPin = false ∧ halted.halted = true := by decide

theorem witness_HostPollsItsSourcesInOrder : HostTurn { idle with edges := [[0, 2]] } ∧ HostTurn (issuing []) ∧
    (issuing []).cmds = [] ∧ (issuing []).edges = [] := ⟨⟨⟨rfl, rfl, rfl⟩, rfl, rfl⟩, hostTurn_issuing _, rfl, rfl⟩

theorem witness_NopChangesNothing : HostTurn (issuing [0x00#8]) ∧ opField 0x07#8 = 0b00#2 ∧ gidField 0x07#8 ≠ 0b000#3 :=
  ⟨hostTurn_issuing _, by decide, by decide⟩

theorem witness_ToggleXorsTheGroupMask : HostTurn (issuing [0x44#8]) ∧
    (issuing [0x44#8]).cmds = (0x40#8 ||| BitVec.ofNat 8 4) :: [] ∧
    (issuing [0x44#8]).cfg.groups[4]? = some ⟨12, 13, 14⟩ ∧ (issuing [0x44#8]).state = some 0x4924#16 ∧
    opField 0x45#8 = 0b01#2 ∧ 5 ≤ (gidField 0x45#8).toNat :=
  ⟨hostTurn_issuing _, rfl, rfl, rfl, by decide, by decide⟩

theorem witness_ReadCopiesStateToRdata : HostTurn (issuing [0xC0#8]) ∧ (issuing [0xC0#8]).state = some 0x4924#16 ∧
    { writing .commit with cmds := [0xC0#8] }.ready = false ∧
    ∃ t, step { writing .commit with cmds := [0xC0#8] } = .next t := ⟨hostTurn_issuing _, rfl, rfl, _, rfl⟩

theorem witness_WriteStartsTheDriver : HostTurn (issuing [0x80#8]) ∧ (issuing [0x80#8]).cmds = 0x80#8 :: [] :=
  ⟨hostTurn_issuing _, rfl⟩

theorem witness_CommandsStopOnlyWithoutGroupOrState : idle.cfg.groups[5]? = none ∧
    { idle with state := none }.cfg.groups[0]? = some ⟨0, 1, 2⟩ ∧ { idle with state := none }.state = none ∧
    (∀ t, exec .read { idle with state := none } ≠ .next t) ∧
    ((Instr.toggle 4).wellFormed idle.cfg.nGroups = true ∧ idle.state ≠ none) :=
  ⟨rfl, rfl, rfl, fun t => by simp [exec, execRead], by decide, by decide⟩

theorem witness_CommandsLeaveTheLinesToTheDriver : ∀ i ∈ [Instr.nop, .toggle 0, .write, .read],
    ∃ t, exec i idle = .next t := by
  simp only [List.mem_cons, List.not_mem_nil, or_false]
  rintro i (rfl | rfl | rfl | rfl) <;> exact ⟨_, rfl⟩

theorem witness_IllegalWordMarksTheRun : HostTurn (issuing [0x45#8]) ∧
    decode (issuing [0x45#8]).cfg.nGroups 0x45#8 = .illegal .unknownGroup 0x45#8 ∧
    { idle with refused := some 0x45#8 }.resetPin = false ∧
    ∃ t, step { idle with refused := some 0x45#8, resetPin := true } = .next t :=
  ⟨hostTurn_issuing _, by decide, rfl, _, rfl⟩

theorem witness_GroupMasksAreDisjointTriples : ValidGroups BlockConfig.reference.groups ∧
    groupMask BlockConfig.reference 0 = some 0x0007#16 ∧ groupMask BlockConfig.reference 4 = some 0x7000#16 :=
  ⟨reference_valid, by decide, by decide⟩

theorem witness_IndexOrderDoesNotMatter : (BitGroup.mk 0 1 2).indices.Perm (BitGroup.mk 2 0 1).indices := by decide

/-- Also for `ToggleTwiceRestores`. -/
theorem witness_ToggleFlipsExactlyThreeBits : ValidGroups idle.cfg.groups ∧ idle.cfg.groups[4]? = some ⟨12, 13, 14⟩ ∧
    idle.state = some 0x4924#16 := ⟨reference_valid, rfl, rfl⟩

theorem witness_ToggleOrderDoesNotMatter : idle.state = some 0x4924#16 ∧
    (∀ g ∈ [0, 4, 1, 1] ++ [4, 0], g < idle.cfg.nGroups) ∧ ∀ g, [0, 4, 1, 1].count g % 2 = [4, 0].count g % 2 := by
  refine ⟨rfl, by decide, fun g => ?_⟩
  by_cases h0 : g = 0
  · subst h0; decide
  · by_cases h1 : g = 1
    · subst h1; decide
    · by_cases h4 : g = 4
      · subst h4; decide
      · simp [Ne.symm h0, Ne.symm h1, Ne.symm h4]

theorem witness_ToggleLeavesOtherGroupsAlone : ValidGroups (issuing [0x41#8]).cfg.groups ∧
    groupMask (issuing [0x41#8]).cfg 1 = some 0x0038#16 ∧ (0 : Nat) ≠ 1 ∧
    step (issuing [0x41#8]) = .next { idle with
      state := some 0x491C#16, events := writeTrace 0x4924#16 ++ [.accept 0x41#8] } ∧
    0x491C#16 &&& 0x0038#16 ≠ 0x4924#16 &&& 0x0038#16 := ⟨reference_valid, by decide, by decide, rfl, by decide⟩

theorem witness_BitFifteenStaysClear : BitFifteenClear (issuing [0x44#8]) ∧ ∃ t, step (issuing [0x44#8]) = .next t :=
  ⟨⟨rfl, fun w h => by cases h; decide⟩, _, rfl⟩

theorem witness_DriverStepsFollowTheSequencer :
    (DriverTurn State.reset ∧ LinkOk State.reset ∧ State.reset.state = some 0x4924#16 ∧ State.reset.serLatch = true) ∧
    (DriverTurn (writing (.data 15)) ∧ LinkOk (writing (.data 15)) ∧ (writing (.data 15)).frame = some 0x4923#16) ∧
    (DriverTurn (writing (.clkHi 0)) ∧ LinkOk (writing (.clkHi 0)) ∧ (writing (.clkHi 0)).serClk = false) ∧
    (DriverTurn (writing (.clkLo 0)) ∧ DriverTurn (writing (.clkLo 15)) ∧ LinkOk (writing (.clkLo 0))) ∧
    (DriverTurn (writing .commit) ∧ LinkOk (writing .commit) ∧ (writing .commit).serLatch = false) :=
  ⟨⟨⟨⟨rfl, rfl, rfl⟩, nofun⟩, rfl, rfl, rfl⟩, ⟨⟨⟨rfl, rfl, rfl⟩, nofun⟩, rfl, rfl⟩, ⟨⟨⟨rfl, rfl, rfl⟩, nofun⟩, rfl, rfl⟩,
    ⟨⟨⟨rfl, rfl, rfl⟩, nofun⟩, ⟨⟨rfl, rfl, rfl⟩, nofun⟩, rfl⟩, ⟨⟨⟨rfl, rfl, rfl⟩, nofun⟩, rfl, rfl⟩⟩

/-- A write is about to start: `WriteSendsAndLatchesTheFrame`, `FrameGoesOutHighByteFirst`, `ShiftStageDuringWrite`,
`OutputsUnchangedUntilCommit`, `WriteTakesFiftyDriverSteps`. -/
theorem witness_WriteStarts : WriteStarts State.reset 0x4924#16 ∧ LinkOk State.reset ∧ (16 : Nat) ≤ 16 ∧ (49 : Nat) ≤ 49 :=
  ⟨{ noReset := rfl, notRefused := rfl, notHalted := rfl, start := rfl, word := rfl, clkLow := rfl, latchHigh := rfl },
    rfl, by decide, by decide⟩

/-- Also for the clauses on resets of `ShiftStageDuringWrite`, `OnlyReadWritesRdata`, `ConfigurationIsReadOnly` and
`OnlyToggleAndResetWriteState`. -/
theorem witness_ResetLoadsTheResetValues : (resetting BlockConfig.reference.groups).resetPin = true ∧
    LinkOk (resetting BlockConfig.reference.groups) ∧
    cfgCheck (resetting BlockConfig.reference.groups).cfg.groups = 0#3 ∧
    ∃ t, step (resetting BlockConfig.reference.groups) = .next t := ⟨rfl, rfl, by decide, _, rfl⟩

theorem witness_InvalidConfigurationHalts : (resetting [⟨0, 0, 16⟩]).resetPin = true ∧
    cfgCheck (resetting [⟨0, 0, 16⟩]).cfg.groups ≠ 0#3 ∧ (resetting [⟨0, 0, 16⟩]).refused = none :=
  ⟨rfl, by decide, rfl⟩

/-- With `witness_ResetLoadsTheResetValues` for the other premises, at the same state. -/
theorem witness_ResetMakesTheInitialWrite : (resetting BlockConfig.reference.groups).refused = none ∧ (0 : Nat) < 50 ∧
    (50 : Nat) < 51 ∧ (0 : Nat) < 1 := by decide

/-- A rising clock edge. -/
theorem witness_ReceiverReactsOnlyToRisingEdges_clk : LinkOk (writing (.clkHi 15)) ∧ (writing (.clkHi 15)).serClk = false ∧
    ∃ t, step (writing (.clkHi 15)) = .next t ∧ t.refused = none ∧ t.serClk = true ∧ t.serLatch = false :=
  ⟨rfl, rfl, _, rfl, rfl, rfl, rfl⟩

/-- A rising latch edge. -/
theorem witness_ReceiverReactsOnlyToRisingEdges_latch : LinkOk (writing .commit) ∧ (writing .commit).serLatch = false ∧
    ∃ t, step (writing .commit) = .next t ∧ t.refused = none ∧ t.serLatch = true := ⟨rfl, rfl, _, rfl, rfl, rfl⟩

theorem witness_WriteRefinesItsAtomicStep : HostTurn (issuing [0x80#8]) ∧ LinkOk (issuing [0x80#8]) ∧
    (issuing [0x80#8]).serClk = false ∧ (issuing [0x80#8]).serLatch = true ∧ (issuing [0x80#8]).cmds = 0x80#8 :: [] ∧
    (issuing [0x80#8]).state = some 0x4924#16 := ⟨hostTurn_issuing _, rfl, rfl, rfl, rfl, rfl⟩

theorem witness_OnlyToggleAndResetWriteState : (issuing [0x41#8]).resetPin = false ∧
    ∃ t, step (issuing [0x41#8]) = .next t ∧ t.refused = none ∧ t.state ≠ (issuing [0x41#8]).state :=
  ⟨rfl, _, rfl, rfl, by decide⟩

theorem witness_OnlyReadWritesRdata : (issuing [0xC0#8]).resetPin = false ∧
    ∃ t, step (issuing [0xC0#8]) = .next t ∧ t.refused = none ∧ t.rdata ≠ (issuing [0xC0#8]).rdata :=
  ⟨rfl, _, rfl, rfl, by decide⟩

theorem witness_ConfigurationIsReadOnly : (issuing [0x80#8]).resetPin = false ∧
    ∃ t, step (issuing [0x80#8]) = .next t ∧ t.refused = none := ⟨rfl, _, rfl, rfl⟩

theorem commits_idle : commitsOf idle.events = [XWord.ofWord 0x4924#16] := by rfl

/-- A state of a run that meets the invariant, with a step from it. -/
theorem witness_EveryStepKeepsTheRunInvariant : RunInvariant (issuing [0x40#8]) ∧ (issuing [0x40#8]).refused = none ∧
    ∃ t, step (issuing [0x40#8]) = .next t := by
  refine ⟨fun _ => ?_, rfl, _, rfl⟩
  have hc : commitsOf (issuing [0x40#8]).events = [XWord.ofWord 0x4924#16] := commits_idle
  exact
    { busy_iff := by decide
      clk_iff := ⟨nofun, fun ⟨_, h⟩ => nomatch h⟩
      latch_iff := by decide
      cause_eq := by decide
      halted_iff := by decide
      halted_lines := nofun
      state_iff := by decide
      frame_iff := by decide
      frame_eq := nofun
      data_eq := nofun
      data_rest := fun _ _ v h => by rw [hc] at h; cases h; rfl
      data_reset := fun _ h => by rw [hc] at h; cases h
      sr_prefix := nofun
      out_last := fun _ v h => by rw [hc] at h; cases h; rfl
      first_commit := fun _ v h => by rw [hc] at h; cases h; rfl
      before_commit := fun _ h => by rw [hc] at h; cases h }

theorem witness_EveryStepKeepsToggledDefault : StateIsToggledDefault (issuing [0x40#8]) ∧
    (issuing [0x40#8]).halted = false ∧ ∃ t, step (issuing [0x40#8]) = .next t := ⟨fun _ _ => rfl, rfl, _, rfl⟩

/-- With `witness_EveryStepKeepsTheRunInvariant` for the first premise, at the same state. -/
theorem witness_EveryStepKeepsTheOutputLag : OutputLagsByPendingToggles (issuing [0x40#8]) ∧
    commitsOf (issuing [0x40#8]).events ≠ [] ∧ ∃ t, step (issuing [0x40#8]) = .next t :=
  ⟨fun _ _ _ => ⟨0x4924#16, 0x4924#16, rfl, rfl, rfl⟩, nofun, _, rfl⟩

theorem witness_ServiceTogglesAndCommits : HostTurn (issuing [0x44#8, 0x80#8]) ∧ LinkOk (issuing [0x44#8, 0x80#8]) ∧
    (issuing [0x44#8, 0x80#8]).serClk = false ∧ (issuing [0x44#8, 0x80#8]).serLatch = true ∧
    (issuing [0x44#8, 0x80#8]).cmds = (0x40#8 ||| BitVec.ofNat 8 4) :: 0x80#8 :: [] ∧
    groupMask (issuing [0x44#8, 0x80#8]).cfg 4 = some 0x7000#16 ∧ (issuing [0x44#8, 0x80#8]).state = some 0x4924#16 :=
  ⟨hostTurn_issuing _, rfl, rfl, rfl, rfl, by decide, rfl⟩

theorem witness_FrameTraceOfTheControlLoop : cfgCheck BlockConfig.reference.groups = 0#3 ∧
    ∀ g ∈ BlockConfig.reference.srcOrder, g < BlockConfig.reference.nGroups := by decide

/-- With `witness_EveryStepKeepsTheRunInvariant` for the first premise, at the same state. -/
theorem witness_EveryRunningStepAnswers : Running (issuing [0x40#8]) ∧
    (resetting BlockConfig.reference.groups).resetPin = true := ⟨(hostTurn_issuing _).toRunning, rfl⟩

end Sys2Proof.Tests
end

/-! PROOFS. Laws that the proofs about the state share: what a step can do outside reset and refusal, what a driver
step and a command leave unchanged, and the event history's views. -/

namespace Sys2Proof.Machine

/-! The agent of a step. -/

/-- The host has a step only with READY = 1 (10_state.md R31). -/
theorem HostTurn.ready {s : State} (h : HostTurn s) : s.ready = true := by
  simp [State.ready, h.notBusy, h.notHalted]

theorem step_next_of_reset {s t : State} (hpin : s.resetPin = true) (h : step s = .next t) : t = resetBlock s := by
  rw [step_reset hpin, Host.Outcome.next.injEq] at h
  exact h.symm

/-- A step without reset that leaves no refusal mark is the driver's, or it is the host's and the host polls or issues
a legal command. -/
theorem step_next_unrefused {s t : State} (hpin : s.resetPin = false) (h : step s = .next t) (ht : t.refused = none) :
    (DriverTurn s ∧ driverStep s = .next t) ∨
    (HostTurn s ∧ t = pollSources s) ∨
    (HostTurn s ∧ ∃ w rest i, s.cmds = w :: rest ∧ decode s.cfg.nGroups w = .legal i ∧
      exec i (s.accept w rest) = .next t) := by
  obtain ⟨hreset, -⟩ | hdriver | ⟨hturn, hhost⟩ := step_next h
  · simp [hpin] at hreset
  · exact .inl hdriver
  · obtain ⟨-, rfl⟩ | ⟨w, rest, i, hlegal⟩ | ⟨w, rest, why, -, -, rfl⟩ := hostStep_next hhost
    · exact .inr (.inl ⟨hturn, rfl⟩)
    · exact .inr (.inr ⟨hturn, w, rest, i, hlegal⟩)
    · simp at ht

/-! What every reset leaves in two fields, whether or not it halts (70_reset_and_hazards.md R190). -/

theorem resetBlock_rdata (s : State) : (resetBlock s).rdata = none := by
  by_cases hvalid : cfgCheck s.cfg.groups = 0#3
  · simp [resetBlock_valid hvalid]
  · simp [resetBlock_invalid hvalid]

theorem resetBlock_sr (s : State) : (resetBlock s).sr = s.sr := by
  by_cases hvalid : cfgCheck s.cfg.groups = 0#3
  · simp [resetBlock_valid hvalid]
  · simp [resetBlock_invalid hvalid]

/-! The driver's steps as equations, one for each value of DRV. -/

section driverSteps

variable {s : State} (h : DriverTurn s)

include h

theorem step_start {w : Word} (hdrv : s.drv = .start) (hw : s.state = some w) :
    step s = .next { driveLatch false s with frame := some w, drv := .data 15 } := by
  simp [step_driver h, driverStep, hdrv, driverStart, hw, Drv.next]

theorem step_data {k : Fin 16} {f : Word} (hdrv : s.drv = .data k) (hf : s.frame = some f) :
    step s = .next { driveData (f.getLsbD k.val) s with drv := .clkHi k } := by
  simp [step_driver h, driverStep, hdrv, driverData, hf, Drv.next]

theorem step_clkHi {k : Fin 16} (hdrv : s.drv = .clkHi k) :
    step s = .next { driveClk true s with drv := .clkLo k } := by
  simp [step_driver h, driverStep, hdrv, driverClkHi, Drv.next]

theorem step_clkLo {k : Fin 16} (hdrv : s.drv = .clkLo k) :
    step s = .next { driveClk false s with drv := Drv.next (.clkLo k) } := by
  simp [step_driver h, driverStep, hdrv, driverClkLo]

theorem step_commit (hdrv : s.drv = .commit) :
    step s = .next { driveLatch true s with frame := none, busy := false, drv := .idle } := by
  simp [step_driver h, driverStep, hdrv, driverCommit, Drv.next]

end driverSteps

/-! What the two agents leave unchanged. -/

/-- What no driver step touches: what belongs to the commands, to the reset or to the host. The events a driver step
adds are its own; none of them takes a word. -/
structure DriverFrame (s t : State) : Prop where
  cfg : t.cfg = s.cfg
  state : t.state = s.state
  rdata : t.rdata = s.rdata
  halted : t.halted = s.halted
  cfgCause : t.cfgCause = s.cfgCause
  refused : t.refused = s.refused
  linkOk : t.linkOk = s.linkOk
  resetPin : t.resetPin = s.resetPin
  cmds : t.cmds = s.cmds
  edges : t.edges = s.edges
  events : ∃ es, t.events = s.events ++ es ∧ ∀ w, Event.accept w ∉ es

theorem driverStep_frame {s t : State} (h : driverStep s = .next t) : DriverFrame s t := by
  obtain ⟨w, -, -, rfl⟩ | ⟨k, f, -, -, rfl⟩ | ⟨k, -, rfl⟩ | ⟨k, -, rfl⟩ | ⟨-, rfl⟩ := driverStep_next h
  case inr.inr.inr.inr =>
    exact ⟨rfl, rfl, rfl, rfl, rfl, rfl, rfl, rfl, rfl, rfl, _, driveLatch_events true s, by intro w; split <;> simp⟩
  all_goals exact ⟨rfl, rfl, rfl, rfl, rfl, rfl, rfl, rfl, rfl, rfl, _, rfl, by simp⟩

/-- What no command touches. The one event a command adds of its own is the `Read` of a READ (10_state.md R46). -/
structure CommandFrame (s t : State) : Prop where
  cfg : t.cfg = s.cfg
  frame : t.frame = s.frame
  halted : t.halted = s.halted
  cfgCause : t.cfgCause = s.cfgCause
  serData : t.serData = s.serData
  serClk : t.serClk = s.serClk
  serLatch : t.serLatch = s.serLatch
  sr : t.sr = s.sr
  out : t.out = s.out
  refused : t.refused = s.refused
  linkOk : t.linkOk = s.linkOk
  resetPin : t.resetPin = s.resetPin
  cmds : t.cmds = s.cmds
  edges : t.edges = s.edges
  events : t.events = s.events ∨ ∃ v, t.events = s.events ++ [.read v]

theorem exec_frame {i : Instr} {s t : State} (h : exec i s = .next t) : CommandFrame s t := by
  obtain ⟨-, rfl⟩ | ⟨g, m, w, -, -, -, rfl⟩ | ⟨-, rfl⟩ | ⟨w, -, -, rfl⟩ := exec_next h
  case inr.inr.inr => exact ⟨rfl, rfl, rfl, rfl, rfl, rfl, rfl, rfl, rfl, rfl, rfl, rfl, rfl, rfl, .inr ⟨w, rfl⟩⟩
  all_goals exact ⟨rfl, rfl, rfl, rfl, rfl, rfl, rfl, rfl, rfl, rfl, rfl, rfl, rfl, rfl, .inl rfl⟩

/-! The views of the event history. -/

@[simp] theorem commitsOf_append (es fs : List Event) : commitsOf (es ++ fs) = commitsOf es ++ commitsOf fs :=
  List.filterMap_append

@[simp] theorem commitsOf_accept (w : Command) : commitsOf [.accept w] = [] := rfl

@[simp] theorem commitsOf_read (v : Word) : commitsOf [.read v] = [] := rfl

@[simp] theorem commitsOf_line_cons (n : LineName) (l : Bool) (es : List Event) :
    commitsOf (.line n l :: es) = commitsOf es := rfl

@[simp] theorem commitsOf_nil : commitsOf [] = [] := rfl

@[simp] theorem commitsOf_commit (v : XWord) : commitsOf [.commit v] = [v] := rfl

@[simp] theorem togglesOf_append (c : BlockConfig) (es fs : List Event) :
    togglesOf c (es ++ fs) = togglesOf c es ++ togglesOf c fs :=
  List.filterMap_append

@[simp] theorem togglesOf_nil (c : BlockConfig) : togglesOf c [] = [] := rfl

/-- Only an accepted word names a group. -/
theorem togglesOf_eq_nil_of_no_accept {c : BlockConfig} {es : List Event} (h : ∀ w, Event.accept w ∉ es) :
    togglesOf c es = [] := by
  refine List.filterMap_eq_nil_iff.mpr fun e he => ?_
  cases e with
  | accept w => exact absurd he (h w)
  | read v => rfl
  | line n l => rfl
  | commit v => rfl
  | refused w => rfl
  | cfgDefect code => rfl

theorem togglesOf_accept_toggle {c : BlockConfig} {w : Command} {g : Nat}
    (h : decode c.nGroups w = .legal (.toggle g)) : togglesOf c [.accept w] = [g] := by
  simp [togglesOf, Event.toggled, h]

theorem togglesOf_accept_other {c : BlockConfig} {w : Command} {i : Instr} (h : decode c.nGroups w = .legal i)
    (hi : ∀ g, i ≠ .toggle g) : togglesOf c [.accept w] = [] := by
  cases i with
  | toggle g => exact absurd rfl (hi g)
  | nop => simp [togglesOf, Event.toggled, h]
  | write => simp [togglesOf, Event.toggled, h]
  | read => simp [togglesOf, Event.toggled, h]

theorem CommandFrame.commitsOf_eq {s t : State} (h : CommandFrame s t) : commitsOf t.events = commitsOf s.events := by
  obtain hnone | ⟨v, hread⟩ := h.events
  · rw [hnone]
  · simp [hread]

theorem CommandFrame.togglesOf_eq {s t : State} (h : CommandFrame s t) (c : BlockConfig) :
    togglesOf c t.events = togglesOf c s.events := by
  obtain hnone | ⟨v, hread⟩ := h.events
  · rw [hnone]
  · rw [hread, togglesOf_append, togglesOf_eq_nil_of_no_accept (es := [.read v]) (by simp), List.append_nil]

/-! The XOR of the masks of a list of groups. -/

@[simp] theorem xorMasks_nil (c : BlockConfig) : xorMasks c [] = 0#16 := rfl

theorem xorMasks_concat (c : BlockConfig) (gs : List Nat) (g : Nat) :
    xorMasks c (gs ++ [g]) = xorMasks c gs ^^^ maskOrZero c g := by
  simp [xorMasks]

theorem maskOrZero_of_groupMask {c : BlockConfig} {g : Nat} {m : Word} (h : groupMask c g = some m) :
    maskOrZero c g = m := by
  simp [maskOrZero, h]

theorem maskOrZero_unconfigured {c : BlockConfig} {g : Nat} (h : c.nGroups ≤ g) : maskOrZero c g = 0#16 := by
  have hnone : c.groups[g]? = none := List.getElem?_eq_none h
  simp [maskOrZero, groupMask, hnone]

/-- If `q` differs from `p` exactly at `g`, selecting the groups below `n` by `q` adds the mask of `g` once more. -/
theorem xorMasks_filter_flip (c : BlockConfig) {p q : Nat → Bool} {g : Nat} (hg : q g = !p g)
    (hne : ∀ h, h ≠ g → q h = p h) (n : Nat) :
    xorMasks c ((List.range n).filter q) =
      xorMasks c ((List.range n).filter p) ^^^ (if g < n then maskOrZero c g else 0#16) := by
  have hsucc (r : Nat → Bool) (n : Nat) : xorMasks c ((List.range (n + 1)).filter r) =
      xorMasks c ((List.range n).filter r) ^^^ (if r n then maskOrZero c n else 0#16) := by
    cases hr : r n <;> simp [List.range_succ, List.filter_append, hr, xorMasks_concat]
  induction n with
  | zero => simp
  | succ n ih =>
    rw [hsucc q, hsucc p, ih]
    rcases Nat.lt_trichotomy g n with hlt | rfl | hgt
    · rw [hne n hlt.ne', if_pos hlt, if_pos (Nat.lt_succ_of_lt hlt), BitVec.xor_assoc, BitVec.xor_assoc,
        BitVec.xor_comm (maskOrZero c g)]
    · cases hp : p g <;> simp [hg, hp]
    · rw [hne n hgt.ne, if_neg (Nat.lt_asymm hgt), if_neg (Nat.not_lt.mpr hgt)]
      simp

/-- Naming one more group adds its mask to the XOR over the groups named an odd number of times. -/
theorem xorMasks_oddGroups_concat (c : BlockConfig) (gs : List Nat) (g : Nat) :
    xorMasks c (oddGroups c (gs ++ [g])) = xorMasks c (oddGroups c gs) ^^^ maskOrZero c g := by
  have hflip : ((gs ++ [g]).count g % 2 == 1) = !(gs.count g % 2 == 1) := by
    rw [List.count_append, List.count_singleton_self]
    rcases Nat.mod_two_eq_zero_or_one (gs.count g) with h | h <;> simp [Nat.add_mod, h]
  have hkeep (h : Nat) (hh : h ≠ g) : ((gs ++ [g]).count h % 2 == 1) = (gs.count h % 2 == 1) := by
    simp [hh.symm]
  rw [oddGroups, xorMasks_filter_flip c (p := fun h => gs.count h % 2 == 1) hflip hkeep c.nGroups, oddGroups]
  split
  case isTrue => rfl
  case isFalse hlt => rw [maskOrZero_unconfigured (Nat.le_of_not_lt hlt)]

/-- Two XORs with one mask cancel, and a group without a mask adds nothing: only the parity of each configured group
counts (40_route_register.md R106). -/
theorem xorMasks_oddGroups (c : BlockConfig) (gs : List Nat) : xorMasks c (oddGroups c gs) = xorMasks c gs := by
  induction gs using List.reverseRecOn with
  | nil => simp [oddGroups]
  | append_singleton gs g ih => rw [xorMasks_oddGroups_concat, ih, xorMasks_concat]

/-! STATE as DEFAULT with the accepted TOGGLEs (10_state.md R22). -/

theorem stateIsToggledDefault_iff (s : State) : StateIsToggledDefault s ↔
    (s.refused = none → s.halted = false →
      s.state = some (s.cfg.dflt ^^^ xorMasks s.cfg (togglesOf s.cfg s.events))) := by
  simp only [StateIsToggledDefault, xorMasks_oddGroups]

/-- What changes neither STATE nor the TOGGLEs of the history keeps the toggle invariant. -/
theorem StateIsToggledDefault.of_same {s t : State} (hs : StateIsToggledDefault s) (hcfg : t.cfg = s.cfg)
    (hstate : t.state = s.state) (hhalted : t.halted = s.halted) (hrefused : t.refused = s.refused)
    (htoggles : togglesOf s.cfg t.events = togglesOf s.cfg s.events) : StateIsToggledDefault t := by
  unfold StateIsToggledDefault
  rw [hcfg, hstate, hhalted, hrefused, htoggles]
  exact hs

/-- After a reset the history is empty of TOGGLEs and STATE is DEFAULT, or the block is halted. -/
theorem resetBlock_stateIsToggledDefault (s : State) : StateIsToggledDefault (resetBlock s) := by
  rw [stateIsToggledDefault_iff]
  intro _ hhalted
  by_cases hvalid : cfgCheck s.cfg.groups = 0#3
  · simp [resetBlock_valid hvalid]
  · simp [resetBlock_invalid hvalid] at hhalted

theorem driverStep_keeps_stateIsToggledDefault {s t : State} (hs : StateIsToggledDefault s)
    (h : driverStep s = .next t) : StateIsToggledDefault t := by
  have hframe := driverStep_frame h
  obtain ⟨es, hevents, haccept⟩ := hframe.events
  exact hs.of_same hframe.cfg hframe.state hframe.halted hframe.refused
    (by simp [hevents, togglesOf_eq_nil_of_no_accept haccept])

/-- A legal command keeps the toggle invariant: a TOGGLE adds its mask to STATE and its group to the history. -/
theorem exec_keeps_stateIsToggledDefault {s t : State} {w : Command} {rest : List Command} {i : Instr}
    (hs : StateIsToggledDefault s) (hdecode : decode s.cfg.nGroups w = .legal i)
    (h : exec i (s.accept w rest) = .next t) : StateIsToggledDefault t := by
  have htoggles (c : BlockConfig) : togglesOf c t.events = togglesOf c s.events ++ togglesOf c [.accept w] := by
    rw [(exec_frame h).togglesOf_eq, accept_events, togglesOf_append]
  have hother (hi : ∀ g, i ≠ .toggle g) : togglesOf s.cfg t.events = togglesOf s.cfg s.events := by
    rw [htoggles, togglesOf_accept_other hdecode hi, List.append_nil]
  obtain ⟨rfl, rfl⟩ | ⟨g, m, v, rfl, hmask, hstate, rfl⟩ | ⟨rfl, rfl⟩ | ⟨v, rfl, -, rfl⟩ := exec_next h
  · exact hs.of_same rfl rfl rfl rfl (hother nofun)
  · rw [stateIsToggledDefault_iff] at hs ⊢
    intro hrefused hhalted
    have hold : v = s.cfg.dflt ^^^ xorMasks s.cfg (togglesOf s.cfg s.events) :=
      Option.some.inj (hstate.symm.trans (hs hrefused hhalted))
    rw [accept_cfg] at hmask ⊢
    rw [htoggles, togglesOf_accept_toggle hdecode, xorMasks_concat, maskOrZero_of_groupMask hmask, hold,
      BitVec.xor_assoc]
  · exact hs.of_same rfl rfl rfl rfl (hother nofun)
  · exact hs.of_same rfl rfl rfl rfl (hother nofun)

/-- Settles O45. An illegal word sets the refusal mark, under which the invariant says nothing; of the other steps
only a reset and a TOGGLE write STATE, and the history restarts with the one and records the other. -/
theorem everyStepKeepsToggledDefault : Obligations.EveryStepKeepsToggledDefault := by
  intro s t hs h
  by_cases ht : t.refused = none
  case neg => exact fun hnone => absurd hnone ht
  cases hpin : s.resetPin with
  | true =>
    obtain rfl := step_next_of_reset hpin h
    exact resetBlock_stateIsToggledDefault s
  | false =>
    obtain ⟨-, hdriver⟩ | ⟨-, rfl⟩ | ⟨-, w, rest, i, -, hdecode, hexec⟩ := step_next_unrefused hpin h ht
    · exact driverStep_keeps_stateIsToggledDefault hs hdriver
    · exact hs.of_same rfl rfl rfl rfl rfl
    · exact exec_keeps_stateIsToggledDefault hs hdecode hexec

end Sys2Proof.Machine

/-! PROOFS. Who writes BUSY, STATE, RDATA and the STATUS word (10_state.md R21, R31 to R33). -/

namespace Sys2Proof.Machine

/-- The layout of STATUS (10_state.md R33), over the 32 contents of its three fields. -/
theorem statusLayout : ∀ (busy halted : Bool) (cause : BitVec 3),
    let status : BitVec 8 := 0#3 ++ cause ++ BitVec.ofBool halted ++ BitVec.ofBool busy
    status.getLsbD 0 = busy ∧ status.getLsbD 1 = halted ∧ status.extractLsb' 2 3 = cause ∧
      status.extractLsb' 5 3 = 0#3 := by
  decide

/-- Settles O38. -/
theorem statusWordFields : Obligations.StatusWordFields :=
  fun s => statusLayout s.busy s.halted s.cfgCause

theorem ready_iff (s : State) : s.ready = true ↔ s.busy = false ∧ s.halted = false := by
  simp [State.ready]

/-- A step of a held host is the driver's (10_state.md R31). -/
theorem step_next_held {s t : State} (hpin : s.resetPin = false) (hready : s.ready = false) (h : step s = .next t) :
    DriverTurn s ∧ driverStep s = .next t := by
  obtain ⟨hreset, -⟩ | hdriver | ⟨hturn, -⟩ := step_next h
  · simp [hpin] at hreset
  · exact hdriver
  · simp [hturn.ready] at hready

/-- Only the Commit step writes BUSY (41_serial_driver.md R125). -/
theorem driverStep_busy {s t : State} (h : driverStep s = .next t) (hdrv : s.drv ≠ .commit) : t.busy = s.busy := by
  obtain ⟨w, -, -, rfl⟩ | ⟨k, f, -, -, rfl⟩ | ⟨k, -, rfl⟩ | ⟨k, -, rfl⟩ | ⟨hcommit, -⟩ := driverStep_next h
  case inr.inr.inr.inr => exact absurd hcommit hdrv
  all_goals rfl

/-- Settles O7: while READY = 0 the driver alone can step, and it takes no word. -/
theorem busyAndHaltedHoldTheHost : Obligations.BusyAndHaltedHoldTheHost := by
  refine ⟨ready_iff, ?held, ?commit, ?busy, ?halted⟩
  case held =>
    intro s t hpin hready h
    have hframe := driverStep_frame (step_next_held hpin hready h).2
    exact ⟨hframe.cmds, hframe.edges, hframe.events⟩
  case commit =>
    intro s hturn hdrv
    exact ⟨_, step_commit hturn hdrv, rfl, (ready_iff _).mpr ⟨rfl, hturn.notHalted⟩⟩
  case busy =>
    intro s t hturn hdrv h
    exact driverStep_busy (step_driver hturn ▸ h) hdrv
  case halted =>
    intro s t hpin hhalted h
    have hready : s.ready = false := by simp [State.ready, hhalted]
    have hrun := (step_next_held hpin hready h).1.notHalted
    simp [hhalted] at hrun

/-- Settles O39: of the commands only TOGGLE writes STATE, and no driver step does. -/
theorem onlyToggleAndResetWriteState : Obligations.OnlyToggleAndResetWriteState := by
  refine ⟨fun s t hpin hvalid h => ?_, fun s t hpin h hrefused hstate => ?_⟩
  · obtain rfl := step_next_of_reset hpin h
    simp [resetBlock_valid hvalid]
  · obtain ⟨-, hdriver⟩ | ⟨-, rfl⟩ | ⟨hturn, v, rest, i, hcmds, hdecode, hexec⟩ :=
      step_next_unrefused hpin h hrefused
    · exact absurd (driverStep_frame hdriver).state hstate
    · exact absurd rfl hstate
    · obtain ⟨rfl, rfl⟩ | ⟨g, m, w, rfl, hmask, hw, rfl⟩ | ⟨rfl, rfl⟩ | ⟨w, rfl, -, rfl⟩ := exec_next hexec
      · exact absurd rfl hstate
      · exact ⟨hturn, v, rest, g, m, w, hcmds, hdecode, hmask, hw, rfl⟩
      · exact absurd rfl hstate
      · exact absurd rfl hstate

/-- Settles O40: of the commands only READ writes RDATA, and no driver step does. -/
theorem onlyReadWritesRdata : Obligations.OnlyReadWritesRdata := by
  refine ⟨fun s t hpin h hrefused hrdata => ?_, fun s t hpin h => ?_, rfl⟩
  · obtain ⟨-, hdriver⟩ | ⟨-, rfl⟩ | ⟨hturn, v, rest, i, hcmds, hdecode, hexec⟩ :=
      step_next_unrefused hpin h hrefused
    · exact absurd (driverStep_frame hdriver).rdata hrdata
    · exact absurd rfl hrdata
    · obtain ⟨rfl, rfl⟩ | ⟨g, m, w, rfl, -, -, rfl⟩ | ⟨rfl, rfl⟩ | ⟨w, rfl, hw, rfl⟩ := exec_next hexec
      · exact absurd rfl hrdata
      · exact absurd rfl hrdata
      · exact absurd rfl hrdata
      · exact ⟨hturn, ⟨v, rest, hcmds, hdecode⟩, hw.symm⟩
  · obtain rfl := step_next_of_reset hpin h
    exact resetBlock_rdata s

end Sys2Proof.Machine

/-! PROOFS. The receiver: what it does at each edge of the lines, and the shift stage during a write
(10_state.md R41 to R43, 41_serial_driver.md R121 to R133). -/

namespace Sys2Proof.Machine

/-- What the receiver may do over an ideal link in one step: shift at a rising edge of SER_CLK, store at a rising edge
of SER_LATCH, each edge with its effect and nothing without its edge (10_state.md R41, R43). -/
structure ReactsToRisingEdges (s t : State) : Prop where
  srKept : ¬(s.serClk = false ∧ t.serClk = true) → t.sr = s.sr
  srShifted : s.serClk = false ∧ t.serClk = true → t.sr = XWord.shiftIn s.sr s.serData
  outKept : ¬(s.serLatch = false ∧ t.serLatch = true) → t.out = s.out ∧ commitsOf t.events = commitsOf s.events
  outStored : s.serLatch = false ∧ t.serLatch = true →
    t.out = s.sr ∧ commitsOf t.events = commitsOf s.events ++ [s.sr]

/-- A step that touches neither the two lines nor the receiver makes no edge. -/
theorem reactsToRisingEdges_of_same {s t : State} (hclk : t.serClk = s.serClk) (hlatch : t.serLatch = s.serLatch)
    (hsr : t.sr = s.sr) (hout : t.out = s.out) (hcommits : commitsOf t.events = commitsOf s.events) :
    ReactsToRisingEdges s t where
  srKept _ := hsr
  srShifted h := by simp [hclk] at h
  outKept _ := ⟨hout, hcommits⟩
  outStored h := by simp [hlatch] at h

section lineWrites

variable (b : Bool) {s : State} (hlink : s.linkOk = true)

include hlink

theorem driveData_reacts : ReactsToRisingEdges s (driveData b s) :=
  reactsToRisingEdges_of_same rfl rfl (by simp [hlink]) (by simp [hlink]) (by simp)

theorem driveClk_reacts : ReactsToRisingEdges s (driveClk b s) where
  srKept h := by
    have hedge : (!s.serClk && b) = false := by simpa using h
    simp [hlink, hedge]
  srShifted h := by
    have hedge : (!s.serClk && b) = true := by simpa using h
    simp [hlink, hedge]
  outKept _ := by simp [hlink]
  outStored h := by simp at h

theorem driveLatch_reacts : ReactsToRisingEdges s (driveLatch b s) where
  srKept _ := by simp [hlink]
  srShifted h := by simp at h
  outKept h := by
    have hedge : (!s.serLatch && b) = false := by simpa using h
    simp [hlink, hedge]
  outStored h := by
    have hedge : (!s.serLatch && b) = true := by simpa using h
    simp [hlink, hedge]

end lineWrites

/-- Every driver step writes one line, and the receiver's reaction is the reaction to that write. -/
theorem driverStep_reacts {s t : State} (hlink : s.linkOk = true) (h : driverStep s = .next t) :
    ReactsToRisingEdges s t := by
  obtain ⟨w, -, -, rfl⟩ | ⟨k, f, -, -, rfl⟩ | ⟨k, -, rfl⟩ | ⟨k, -, rfl⟩ | ⟨-, rfl⟩ := driverStep_next h
  · exact { driveLatch_reacts false hlink with }
  · exact { driveData_reacts (f.getLsbD k.val) hlink with }
  · exact { driveClk_reacts true hlink with }
  · exact { driveClk_reacts false hlink with }
  · exact { driveLatch_reacts true hlink with }

theorem step_reacts {s t : State} (hpin : s.resetPin = false) (hlink : LinkOk s) (h : step s = .next t)
    (hrefused : t.refused = none) : ReactsToRisingEdges s t := by
  obtain ⟨-, hdriver⟩ | ⟨-, rfl⟩ | ⟨-, w, rest, i, -, -, hexec⟩ := step_next_unrefused hpin h hrefused
  · exact driverStep_reacts hlink hdriver
  · exact reactsToRisingEdges_of_same rfl rfl rfl rfl rfl
  · have hframe := exec_frame hexec
    exact reactsToRisingEdges_of_same hframe.serClk hframe.serLatch hframe.sr hframe.out
      (by simp [hframe.commitsOf_eq])

/-- Only the Commit step raises SER_LATCH (41_serial_driver.md R125). -/
theorem step_raises_latch_at_commit {s t : State} (hpin : s.resetPin = false) (h : step s = .next t)
    (hrefused : t.refused = none) (hedge : s.serLatch = false ∧ t.serLatch = true) : s.drv = .commit := by
  obtain ⟨hlow, hhigh⟩ := hedge
  have hsame (heq : t.serLatch = s.serLatch) : False := by simp [hlow, hhigh] at heq
  obtain ⟨-, hdriver⟩ | ⟨-, rfl⟩ | ⟨-, w, rest, i, -, -, hexec⟩ := step_next_unrefused hpin h hrefused
  · obtain ⟨w, -, -, rfl⟩ | ⟨k, f, -, -, rfl⟩ | ⟨k, -, rfl⟩ | ⟨k, -, rfl⟩ | ⟨hcommit, -⟩ := driverStep_next hdriver
    · simp at hhigh
    · exact (hsame rfl).elim
    · exact (hsame rfl).elim
    · exact (hsame rfl).elim
    · exact hcommit
  · exact (hsame rfl).elim
  · exact (hsame (exec_frame hexec).serLatch).elim

/-- Settles O29: whatever the step, the receiver reacts to the edges it makes and to nothing else. -/
theorem receiverReactsOnlyToRisingEdges : Obligations.ReceiverReactsOnlyToRisingEdges := by
  intro s t hpin hlink h hrefused
  have hreacts := step_reacts hpin hlink h hrefused
  refine ⟨hreacts.srKept, fun hedge => ?_, hreacts.outKept, fun hedge =>
    ⟨step_raises_latch_at_commit hpin h hrefused hedge, hreacts.outStored hedge⟩⟩
  rw [hreacts.srShifted hedge]
  exact ⟨XWord.shiftIn_zero _ _, fun i hi => XWord.shiftIn_succ _ _ i (by omega)⟩

/-! The first `k` bits of a write. -/

/-- What DRV holds when `k` bits of the frame have been clocked: the next bit, from 15 down, or Commit. -/
def drvAfterBits (k : Nat) : Drv := if k < 16 then .data (Fin.ofNat 16 (15 - k)) else .commit

/-- SR when `k` bits of frame `f`, from bit 15 down, have been shifted into `x`. -/
def shiftBits (x : XWord) (f : Word) : Nat → XWord
  | 0 => x
  | k + 1 => (shiftBits x f k).shiftIn (f.getLsbD (15 - k))

/-- The state of a write of `w`, started in `s`, when its Start step and the three steps of each of `k` bits are
done. Over a broken link the receiver has no value (log entry 11). -/
def afterBits (s : State) (w : Word) (k : Nat) : State :=
  { s with
    frame := some w
    serLatch := false
    serData := if k = 0 then s.serData else w.getLsbD (16 - k)
    drv := drvAfterBits k
    sr := s.throughLink (shiftBits s.sr w k)
    out := s.throughLink s.out
    events := s.events ++ .line .serLatch false :: (List.range k).flatMap fun j => bitTrace w (15 - j) }

theorem throughLink_throughLink (s : State) (x : XWord) : s.throughLink (s.throughLink x) = s.throughLink x := by
  cases h : s.linkOk <;> simp [h]

theorem throughLink_shiftIn (s : State) (x : XWord) (d : Bool) :
    s.throughLink ((s.throughLink x).shiftIn d) = s.throughLink (x.shiftIn d) := by
  cases h : s.linkOk <;> simp [h]

theorem drvAfterBits_next {k : Nat} (hk : k < 16) :
    Drv.next (.clkLo (Fin.ofNat 16 (15 - k))) = drvAfterBits (k + 1) := by
  have hval : (Fin.ofNat 16 (15 - k)).val = 15 - k := Nat.mod_eq_of_lt (by omega)
  simp only [Drv.next, drvAfterBits, hval]
  rcases Nat.lt_or_ge (k + 1) 16 with hmore | hlast
  · have hbit : 15 - k - 1 = (15 - (k + 1)) % 16 := by omega
    simp [hmore, hbit, Fin.ofNat, show 0 < 15 - k by omega]
  · simp [show ¬ k + 1 < 16 by omega, show ¬ 0 < 15 - k by omega]

theorem WriteStarts.driverTurn {s : State} {w : Word} (h : WriteStarts s w) : DriverTurn s :=
  ⟨h.toRunning, by simp [h.start]⟩

theorem afterBits_driverTurn {s : State} {w : Word} (h : WriteStarts s w) (k : Nat) : DriverTurn (afterBits s w k) := by
  refine ⟨⟨h.noReset, h.notRefused, h.notHalted⟩, ?_⟩
  unfold afterBits drvAfterBits
  split <;> simp

/-- The Start step leaves no bit clocked. -/
theorem step_eq_afterBits_zero {s : State} {w : Word} (h : WriteStarts s w) : step s = .next (afterBits s w 0) := by
  rw [step_start h.driverTurn h.start h.word]
  simp [afterBits, drvAfterBits, shiftBits, driveLatch]

/-- The three steps of one bit, at DRV = Data(k) with SER_CLK at 0 (41_serial_driver.md R122 to R124). -/
theorem runs_three_of_data {s : State} {k : Fin 16} {f : Word} (h : Running s) (hdrv : s.drv = .data k)
    (hf : s.frame = some f) (hclk : s.serClk = false) :
    runs 3 s = .next { s with
      serData := f.getLsbD k.val
      sr := s.throughLink (s.sr.shiftIn (f.getLsbD k.val))
      out := s.throughLink s.out
      drv := Drv.next (.clkLo k)
      events := s.events ++ bitTrace f k.val } := by
  have hdata := step_data ⟨h, by simp [hdrv]⟩ hdrv hf
  have hrise := step_clkHi (s := { driveData (f.getLsbD k.val) s with drv := .clkHi k })
    ⟨⟨h.noReset, h.notRefused, h.notHalted⟩, nofun⟩ rfl
  have hfall := step_clkLo (s := { driveClk true { driveData (f.getLsbD k.val) s with drv := .clkHi k } with
    drv := .clkLo k }) ⟨⟨h.noReset, h.notRefused, h.notHalted⟩, nofun⟩ rfl
  calc runs 3 s = _ := runs_succ 2 hdata
    _ = _ := runs_succ 1 hrise
    _ = _ := runs_succ 0 hfall
    _ = _ := by
      cases hlink : s.linkOk <;> simp [driveData, driveClk, State.throughLink, hlink, hclk, bitTrace]

/-- The three steps of the next bit. -/
theorem runs_three_afterBits {s : State} {w : Word} (h : WriteStarts s w) {k : Nat} (hk : k < 16) :
    runs 3 (afterBits s w k) = .next (afterBits s w (k + 1)) := by
  have hdrv : (afterBits s w k).drv = .data (Fin.ofNat 16 (15 - k)) := if_pos hk
  have hval : (Fin.ofNat 16 (15 - k)).val = 15 - k := Nat.mod_eq_of_lt (by omega)
  have hdata : w.getLsbD (15 - k) = (afterBits s w (k + 1)).serData := by simp [afterBits]
  have hsr : (afterBits s w k).throughLink ((afterBits s w k).sr.shiftIn (w.getLsbD (15 - k))) =
      (afterBits s w (k + 1)).sr := throughLink_shiftIn s _ _
  have hout : (afterBits s w k).throughLink (afterBits s w k).out = (afterBits s w (k + 1)).out :=
    throughLink_throughLink s _
  have hevents : (afterBits s w k).events ++ bitTrace w (15 - k) = (afterBits s w (k + 1)).events := by
    simp [afterBits, List.range_succ]
  rw [runs_three_of_data (afterBits_driverTurn h k).toRunning hdrv rfl h.clkLow, drvAfterBits_next hk, hval, hsr, hout,
    hevents, hdata]
  rfl

/-- After the Start step and `k` rising edges of SER_CLK, and the falling edge after the last of them. -/
theorem runs_afterBits {s : State} {w : Word} (h : WriteStarts s w) {k : Nat} (hk : k ≤ 16) :
    runs (1 + 3 * k) s = .next (afterBits s w k) := by
  induction k with
  | zero => rw [Nat.mul_zero, Nat.add_zero, runs_succ 0 (step_eq_afterBits_zero h), runs_zero]
  | succ k ih => rw [Nat.mul_succ, ← Nat.add_assoc, runs_add _ 3 (ih (by omega)), runs_three_afterBits h (by omega)]

/-- The low `k` bits are the last `k` shifted in, the newest at bit 0. -/
theorem shiftBits_low (x : XWord) (f : Word) {k i : Nat} (hk : k ≤ 16) (hi : i < k) :
    (shiftBits x f k)[i] = some (f.getLsbD (16 - k + i)) := by
  induction k generalizing i with
  | zero => omega
  | succ k ih =>
    cases i with
    | zero => rw [shiftBits, XWord.shiftIn_zero]; congr 2; omega
    | succ i => rw [shiftBits, XWord.shiftIn_succ, ih (by omega) (by omega)]; congr 2; omega

/-- The bits above are the old ones, `k` places higher. -/
theorem shiftBits_high (x : XWord) (f : Word) {k i : Nat} (hi : i < 16) (hk : k ≤ i) :
    (shiftBits x f k)[i] = x[i - k] := by
  induction k generalizing i with
  | zero => rfl
  | succ k ih =>
    cases i with
    | zero => omega
    | succ i => rw [shiftBits, XWord.shiftIn_succ, ih (by omega) (by omega)]; simp

/-- Settles O27: after `k` bits SR is the frame's `k` high bits shifted into what it held, over an ideal link. -/
theorem shiftStageDuringWrite : Obligations.ShiftStageDuringWrite := by
  refine ⟨⟨rfl, rfl⟩, fun s t hpin _ h => ?_, fun s w k hstart hlink hk => ?_⟩
  · obtain rfl := step_next_of_reset hpin h
    exact resetBlock_sr s
  · have hsr : (afterBits s w k).sr = shiftBits s.sr w k := throughLink_ok hlink _
    refine ⟨_, runs_afterBits hstart hk, fun i hi => ?_, fun i hi hki => ?_⟩
    · rw [hsr]; exact shiftBits_low s.sr w hk hi
    · rw [hsr]; exact shiftBits_high s.sr w hi hki

end Sys2Proof.Machine

/-! PROOFS. The contents of the state during a write: the order in which the frame goes out, and what OUT holds until
the Commit step (20_memory.md R52, R53, R64). -/

namespace Sys2Proof.Machine

/-! The order of the bits on SER_DATA. -/

@[simp] theorem dataLevels_append (es fs : List Event) : dataLevels (es ++ fs) = dataLevels es ++ dataLevels fs :=
  List.filterMap_append

@[simp] theorem dataLevels_nil : dataLevels [] = [] := rfl

@[simp] theorem dataLevels_latch_cons (l : Bool) (es : List Event) :
    dataLevels (.line .serLatch l :: es) = dataLevels es := rfl

@[simp] theorem dataLevels_commit_cons (v : XWord) (es : List Event) :
    dataLevels (.commit v :: es) = dataLevels es := rfl

/-- Of the three line writes of a bit, one is of SER_DATA. -/
@[simp] theorem dataLevels_bitTrace (f : Word) (k : Nat) : dataLevels (bitTrace f k) = [f.getLsbD k] := rfl

theorem dataLevels_flatMap_bitTrace (f : Word) (ks : List Nat) :
    dataLevels (ks.flatMap (bitTrace f)) = ks.map f.getLsbD := by
  induction ks with
  | nil => rfl
  | cons k ks ih => simp [ih]

theorem highByte_getLsbD (w : Word) {i : Nat} (hi : i < 8) : ((w >>> 8).setWidth 8).getLsbD i = w.getLsbD (8 + i) := by
  simp [hi]

theorem lowByte_getLsbD (w : Word) {i : Nat} (hi : i < 8) :
    ((w &&& 0x00FF#16).setWidth 8).getLsbD i = w.getLsbD i := by
  have hmask : (0x00FF#16).setWidth 8 = BitVec.allOnes 8 := by decide
  rw [BitVec.setWidth_and, hmask, BitVec.and_allOnes]
  simp [hi]

/-- HI, then LO, each most significant bit first, are the bits of the word from 15 down (20_memory.md R53). -/
theorem msbFirst_high_append_low (w : Word) :
    msbFirst ((w >>> 8).setWidth 8) ++ msbFirst ((w &&& 0x00FF#16).setWidth 8) =
      (List.range 16).reverse.map w.getLsbD := by
  have hhigh : msbFirst ((w >>> 8).setWidth 8) = (List.range 8).reverse.map fun i => w.getLsbD (8 + i) :=
    List.map_congr_left fun i hi => highByte_getLsbD w (by simpa using hi)
  have hlow : msbFirst ((w &&& 0x00FF#16).setWidth 8) = (List.range 8).reverse.map w.getLsbD :=
    List.map_congr_left fun i hi => lowByte_getLsbD w (by simpa using hi)
  have hsplit : List.range 16 = List.range 8 ++ (List.range 8).map (8 + ·) := List.range_add (n := 8) (m := 8)
  simp only [hhigh, hlow, hsplit, List.reverse_append, List.map_append, ← List.map_reverse, List.map_map]
  rfl

/-- The bits that a whole frame has presented once its last bit is clocked. -/
theorem dataLevels_afterBits (s : State) (w : Word) :
    dataLevels (afterBits s w 16).events = dataLevels s.events ++ (List.range 16).reverse.map w.getLsbD := by
  have hdown : (List.range 16).map (15 - ·) = (List.range 16).reverse := by decide
  have hbits : (List.range 16).flatMap (fun j => bitTrace w (15 - j)) =
      (List.range 16).reverse.flatMap (bitTrace w) := by
    rw [← hdown, List.flatMap_map]
  simp [afterBits, hbits, dataLevels_flatMap_bitTrace]

/-- The Commit step, the last of the 50, presents no bit. -/
theorem dataLevels_driveLatch (b : Bool) (s : State) : dataLevels (driveLatch b s).events = dataLevels s.events := by
  rw [driveLatch_events]
  split <;> simp

/-- Settles O26: after 49 steps the frame's 16 bits have been presented, from 15 down, and Commit adds none. -/
theorem frameGoesOutHighByteFirst : Obligations.FrameGoesOutHighByteFirst := by
  intro s w hstart
  have hcommit := step_commit (afterBits_driverTurn hstart 16) rfl
  refine ⟨_, (runs_add 49 1 (runs_afterBits hstart (Nat.le_refl 16))).trans (runs_succ 0 hcommit), ?_⟩
  calc dataLevels (driveLatch true (afterBits s w 16)).events
      = dataLevels (afterBits s w 16).events := dataLevels_driveLatch true _
    _ = dataLevels s.events ++ (List.range 16).reverse.map w.getLsbD := dataLevels_afterBits s w
    _ = _ := by rw [List.append_assoc, msbFirst_high_append_low]

/-! A write up to its Commit step. -/

/-- A write of `w` is in progress and the driver has a step: at Start `w` is in STATE, later it is in FRAME
(10_state.md R25, 41_serial_driver.md R121). -/
structure Writing (w : Word) (s : State) : Prop extends DriverTurn s where
  word : s.drv = .start → s.state = some w
  frame : s.drv ≠ .start → s.frame = some w

theorem WriteStarts.writing {s : State} {w : Word} (h : WriteStarts s w) : Writing w s :=
  ⟨h.driverTurn, fun _ => h.word, fun hdrv => absurd h.start hdrv⟩

theorem Writing.step_answers {s : State} {w : Word} (h : Writing w s) : ∃ t, step s = .next t := by
  have hturn := h.toDriverTurn
  cases hdrv : s.drv with
  | idle => exact absurd hdrv h.active
  | start => exact ⟨_, step_start hturn hdrv (h.word hdrv)⟩
  | data k => exact ⟨_, step_data hturn hdrv (h.frame (by simp [hdrv]))⟩
  | clkHi k => exact ⟨_, step_clkHi hturn hdrv⟩
  | clkLo k => exact ⟨_, step_clkLo hturn hdrv⟩
  | commit => exact ⟨_, step_commit hturn hdrv⟩

/-- The driver counts down to Idle (41_serial_driver.md R126). -/
theorem driverStep_stepsLeft {s t : State} (h : driverStep s = .next t) : t.drv.stepsLeft + 1 = s.drv.stepsLeft := by
  obtain ⟨w, hdrv, -, rfl⟩ | ⟨k, f, hdrv, -, rfl⟩ | ⟨k, hdrv, rfl⟩ | ⟨k, hdrv, rfl⟩ | ⟨hdrv, rfl⟩ := driverStep_next h
  case inr.inr.inr.inl =>
    simp only [hdrv, Drv.next]
    split
    all_goals simp only [Drv.stepsLeft]; omega
  all_goals simp [hdrv, Drv.stepsLeft]

theorem stepsLeft_pos_iff (d : Drv) : 0 < d.stepsLeft ↔ d ≠ .idle := by
  cases d <;> simp [Drv.stepsLeft]

theorem DriverFrame.running {s t : State} (h : DriverFrame s t) (hs : Running s) : Running t :=
  ⟨h.resetPin.trans hs.noReset, h.refused.trans hs.notRefused, h.halted.trans hs.notHalted⟩

/-- A driver step other than Commit leaves the write in progress. -/
theorem Writing.of_driverStep {s t : State} {w : Word} (h : Writing w s) (hmore : 1 < s.drv.stepsLeft)
    (hstep : driverStep s = .next t) : Writing w t := by
  have hcount := driverStep_stepsLeft hstep
  have hactive : t.drv ≠ .idle := (stepsLeft_pos_iff _).mp (by omega)
  have hframe : t.frame = some w ∧ t.drv ≠ .start := by
    obtain ⟨v, hdrv, hv, rfl⟩ | ⟨k, f, hdrv, -, rfl⟩ | ⟨k, hdrv, rfl⟩ | ⟨k, hdrv, rfl⟩ | ⟨hdrv, -⟩ :=
      driverStep_next hstep
    · exact ⟨hv.symm.trans (h.word hdrv), nofun⟩
    · exact ⟨h.frame (by simp [hdrv]), nofun⟩
    · exact ⟨h.frame (by simp [hdrv]), nofun⟩
    · refine ⟨h.frame (by simp [hdrv]), ?_⟩
      simp only [Drv.next]
      split <;> nofun
    · simp [hdrv, Drv.stepsLeft] at hmore
  exact ⟨⟨(driverStep_frame hstep).running h.toRunning, hactive⟩, fun hdrv => absurd hdrv hframe.2, fun _ => hframe.1⟩

/-- The induction along a write: until its Commit step is taken the run answers, the driver counts down, and what each
of the driver's other steps keeps still holds. -/
theorem Writing.runs_keeps {P : State → Prop}
    (hkeep : ∀ u v, DriverTurn u → u.drv ≠ .commit → driverStep u = .next v → P u → P v) {s : State} {w : Word}
    {j : Nat} (h : Writing w s) (hj : j < s.drv.stepsLeft) (hP : P s) :
    ∃ t, runs j s = .next t ∧ Writing w t ∧ t.drv.stepsLeft = s.drv.stepsLeft - j ∧ P t := by
  induction j generalizing s with
  | zero => exact ⟨s, runs_zero s, h, rfl, hP⟩
  | succ j ih =>
    obtain ⟨u, hstep⟩ := h.step_answers
    have hdriver : driverStep s = .next u := step_driver h.toDriverTurn ▸ hstep
    have hcount := driverStep_stepsLeft hdriver
    have hcommit : s.drv ≠ .commit := fun hdrv => by simp [hdrv, Drv.stepsLeft] at hj
    obtain ⟨t, hruns, hwriting, hleft, hPt⟩ :=
      ih (h.of_driverStep (by omega) hdriver) (by omega) (hkeep s u h.toDriverTurn hcommit hdriver hP)
    exact ⟨t, (runs_succ j hstep).trans hruns, hwriting, by omega, hPt⟩

/-! OUT up to the Commit step. -/

/-- OUT moves only with a rising edge of SER_LATCH, and no other driver step than Commit makes one (10_state.md R43). -/
theorem driverStep_out {s t : State} (hturn : DriverTurn s) (hlink : LinkOk s) (hdrv : s.drv ≠ .commit)
    (h : driverStep s = .next t) : t.out = s.out := by
  have hrefused : t.refused = none := (driverStep_frame h).refused.trans hturn.notRefused
  have hstep : step s = .next t := (step_driver hturn).trans h
  have hnoedge : ¬(s.serLatch = false ∧ t.serLatch = true) := fun hedge =>
    hdrv (step_raises_latch_at_commit hturn.noReset hstep hrefused hedge)
  exact ((driverStep_reacts hlink h).outKept hnoedge).1

/-- Settles O28: every driver step but Commit keeps OUT, and Commit is the 50th. -/
theorem outputsUnchangedUntilCommit : Obligations.OutputsUnchangedUntilCommit := by
  intro s w j hstart hlink hj
  have hleft : j < s.drv.stepsLeft := by rw [hstart.start]; exact Nat.lt_succ_of_le hj
  obtain ⟨t, hruns, -, -, -, hout⟩ := hstart.writing.runs_keeps (P := fun u => LinkOk u ∧ u.out = s.out)
    (fun u v hturn hdrv hdriver ⟨hlinku, hout⟩ => ⟨(driverStep_frame hdriver).linkOk.trans hlinku,
      (driverStep_out hturn hlinku hdrv hdriver).trans hout⟩) hleft ⟨hlink, rfl⟩
  exact ⟨t, hruns, hout⟩

end Sys2Proof.Machine

/-! PROOFS. The encoding (30_encoding.md): a word is its three fields, and which words are illegal. -/

namespace Sys2Proof

/-- A word is OP, then RSV, then GID (30_encoding.md R71). -/
theorem opField_append_rsvField_append_gidField (w : Command) : opField w ++ rsvField w ++ gidField w = w := by
  have hlow : rsvField w ++ gidField w = w.extractLsb' 0 6 := BitVec.extractLsb'_append_extractLsb'_eq_extractLsb' rfl
  have hall : opField w ++ w.extractLsb' 0 6 = w.extractLsb' 0 8 :=
    BitVec.extractLsb'_append_extractLsb'_eq_extractLsb' rfl
  calc opField w ++ rsvField w ++ gidField w
      = opField w ++ (rsvField w ++ gidField w) := BitVec.append_assoc
    _ = w := by rw [hlow, hall, BitVec.extractLsb'_eq_self]

/-- A word is given by its fields. -/
theorem command_eq_iff_fields {v w : Command} :
    v = w ↔ opField v = opField w ∧ rsvField v = rsvField w ∧ gidField v = gidField w := by
  constructor
  · rintro rfl
    exact ⟨rfl, rfl, rfl⟩
  · rintro ⟨hop, hrsv, hgid⟩
    rw [← opField_append_rsvField_append_gidField v, hop, hrsv, hgid, opField_append_rsvField_append_gidField]

theorem decodePlain_illegal_iff {i : Instr} {w : Command} :
    (∃ why, decodePlain i w = .illegal why w) ↔ gidField w ≠ 0#3 := by
  by_cases hgid : gidField w = 0#3 <;> simp [decodePlain, hgid]

theorem decodeToggle_illegal_iff {n : Nat} {w : Command} :
    (∃ why, decodeToggle n w = .illegal why w) ↔ n ≤ (gidField w).toNat := by
  obtain hlt | hge := Nat.lt_or_ge (gidField w).toNat n
  · simp [decodeToggle, hlt]
  · simp [decodeToggle, hge, Nat.not_lt.mpr hge]

theorem decode_of_rsv {n : Nat} {w : Command} (hrsv : rsvField w ≠ 0#3) : decode n w = .illegal .reservedField w :=
  if_pos hrsv

theorem decode_of_toggle_op {n : Nat} {w : Command} (hrsv : rsvField w = 0#3) (hop : opField w = 0b01#2) :
    decode n w = decodeToggle n w := by
  simp [decode, hrsv, hop]

/-- With RSV = 000, a word of another OP than TOGGLE's is a command without an operand. -/
theorem decode_of_plain_op {n : Nat} {w : Command} (hrsv : rsvField w = 0#3) (hop : opField w ≠ 0b01#2) :
    ∃ i, decode n w = decodePlain i w := by
  unfold decode
  rw [if_neg (not_not_intro hrsv), if_neg hop]
  split_ifs
  · exact ⟨.nop, rfl⟩
  · exact ⟨.write, rfl⟩
  · exact ⟨.read, rfl⟩

/-- The three rules, one per case of the decoder (30_encoding.md R75, R76, R77). -/
theorem decode_illegal_iff {n : Nat} {w : Command} : (∃ why, decode n w = .illegal why w) ↔
    rsvField w ≠ 0b000#3 ∨ (opField w = 0b01#2 ∧ n ≤ (gidField w).toNat) ∨
      (opField w ≠ 0b01#2 ∧ gidField w ≠ 0b000#3) := by
  by_cases hrsv : rsvField w = 0#3
  · by_cases hop : opField w = 0b01#2
    · rw [decode_of_toggle_op hrsv hop, decodeToggle_illegal_iff]
      simp [hrsv, hop]
    · obtain ⟨i, hdecode⟩ := decode_of_plain_op (n := n) hrsv hop
      rw [hdecode, decodePlain_illegal_iff]
      simp [hrsv, hop]
  · simp [decode_of_rsv hrsv, hrsv]

/-- A field of three bits holds 5 or more exactly when it is 5, 6 or 7. -/
theorem five_le_toNat_iff : ∀ g : BitVec 3, 5 ≤ g.toNat ↔ g = 5#3 ∨ g = 6#3 ∨ g = 7#3 := by decide

/-- With 5 groups three TOGGLE words with RSV = 000 name no group (30_encoding.md R76). -/
theorem toggle_illegal_five_iff {w : Command} :
    (opField w = 0b01#2 ∧ rsvField w = 0b000#3 ∧ ∃ why, decode 5 w = .illegal why w) ↔
      w = 0x45#8 ∨ w = 0x46#8 ∨ w = 0x47#8 := by
  calc (opField w = 0b01#2 ∧ rsvField w = 0b000#3 ∧ ∃ why, decode 5 w = .illegal why w)
      ↔ opField w = 0b01#2 ∧ rsvField w = 0b000#3 ∧ (gidField w = 5#3 ∨ gidField w = 6#3 ∨ gidField w = 7#3) := by
        refine and_congr_right fun hop => and_congr_right fun hrsv => ?_
        rw [decode_of_toggle_op hrsv hop, decodeToggle_illegal_iff, five_le_toNat_iff]
    _ ↔ w = 0x45#8 ∨ w = 0x46#8 ∨ w = 0x47#8 := by
        simp only [command_eq_iff_fields (v := w), and_or_left]
        rfl

/-- Settles O3: the rules follow the decoder's cases; the two counts run over the 256 words. -/
theorem illegalWordsAreThoseOfTheRules : Obligations.IllegalWordsAreThoseOfTheRules :=
  ⟨fun _ _ => decode_illegal_iff, by rfl, by rfl, fun _ => toggle_illegal_five_iff⟩

end Sys2Proof

/-! PROOFS. The Route State Register (40_route_register.md): the masks, what NOP, TOGGLE and READ answer, and what
TOGGLEs do to STATE. -/

namespace Sys2Proof

/-! The bits of a mask (40_route_register.md R102). -/

theorem bitMask_getLsbD (i k : Nat) : (bitMask i).getLsbD k = true ↔ k < 16 ∧ k = i := by
  have hpow : bitMask i = BitVec.twoPow 16 i := rfl
  rw [hpow, BitVec.getLsbD_twoPow, Bool.and_eq_true, decide_eq_true_eq, decide_eq_true_eq]
  omega

/-- The bits set in a mask are the indices of the group. -/
theorem BitGroup.mask_getLsbD (b : BitGroup) (k : Nat) : b.mask.getLsbD k = true ↔ k < 16 ∧ k ∈ b.indices := by
  simp only [BitGroup.mask, BitVec.getLsbD_or, Bool.or_eq_true, bitMask_getLsbD, BitGroup.indices, List.mem_cons,
    List.not_mem_nil, or_false, ← and_or_left, or_assoc]

theorem BitGroup.mask_getLsbD_of_not_mem {b : BitGroup} {k : Nat} (hk : k ∉ b.indices) : b.mask.getLsbD k = false :=
  Bool.eq_false_iff.mpr fun hbit => hk ((b.mask_getLsbD k).mp hbit).2

theorem groupMask_of_group {c : BlockConfig} {g : Nat} {b : BitGroup} (hb : c.groups[g]? = some b) :
    groupMask c g = some b.mask := by
  simp [groupMask, hb]

theorem groupMask_eq_some_iff {c : BlockConfig} {g : Nat} {m : Word} :
    groupMask c g = some m ↔ ∃ b, c.groups[g]? = some b ∧ b.mask = m :=
  Option.map_eq_some_iff

theorem groupMask_isSome_of_lt {c : BlockConfig} {g : Nat} (hg : g < c.nGroups) : ∃ m, groupMask c g = some m :=
  ⟨_, groupMask_of_group (List.getElem?_eq_getElem hg)⟩

namespace Machine

/-- Distinct indices in range are distinct bits, so that a mask has as many bits as a group has indices. -/
theorem bitCount_mask {b : BitGroup} (hrange : ∀ i ∈ b.indices, i ≤ 15) (hdistinct : b.indices.Nodup) :
    bitCount b.mask = 3 := by
  have hperm : ((List.range 16).filter fun k => b.mask.getLsbD k).Perm b.indices := by
    refine (List.perm_ext_iff_of_nodup (List.nodup_range.filter _) hdistinct).mpr fun k => ?_
    rw [List.mem_filter, List.mem_range, b.mask_getLsbD]
    constructor
    · exact fun h => h.2.2
    · intro hk
      have hle := hrange k hk
      exact ⟨by omega, by omega, hk⟩
  exact hperm.length_eq

theorem ValidGroups.bitCount_mask {gs : List BitGroup} (hvalid : ValidGroups gs) {g : Nat} {b : BitGroup}
    (hb : gs[g]? = some b) : bitCount b.mask = 3 :=
  have hmem := List.mem_of_getElem? hb
  Machine.bitCount_mask (hvalid.inRange b hmem) (hvalid.distinct b hmem)

/-- Groups that share no index share no bit. -/
theorem ValidGroups.mask_and_mask {gs : List BitGroup} (hvalid : ValidGroups gs) {g h : Nat} {b c : BitGroup}
    (hb : gs[g]? = some b) (hc : gs[h]? = some c) (hne : g ≠ h) : b.mask &&& c.mask = 0#16 := by
  refine BitVec.eq_of_getLsbD_eq fun k _ => ?_
  rw [BitVec.getLsbD_and, BitVec.getLsbD_zero]
  by_cases hk : k ∈ b.indices
  · rw [BitGroup.mask_getLsbD_of_not_mem (hvalid.disjoint g h b c hb hc hne k hk), Bool.and_false]
  · rw [BitGroup.mask_getLsbD_of_not_mem hk, Bool.false_and]

theorem ValidGroups.groupMask_and_groupMask {c : BlockConfig} (hvalid : ValidGroups c.groups) {g h : Nat} {m n : Word}
    (hm : groupMask c g = some m) (hn : groupMask c h = some n) (hne : g ≠ h) : m &&& n = 0#16 := by
  obtain ⟨b, hb, rfl⟩ := groupMask_eq_some_iff.mp hm
  obtain ⟨b', hb', rfl⟩ := groupMask_eq_some_iff.mp hn
  exact hvalid.mask_and_mask hb hb' hne

/-- Settles O16: a mask's bits are its group's indices, distinct within a group and between groups. -/
theorem groupMasksAreDisjointTriples : Obligations.GroupMasksAreDisjointTriples := by
  refine ⟨fun c g b hb => groupMask_of_group hb, fun c g m hvalid hm => ?triple,
    fun c g h m n hvalid hne hm hn => hvalid.groupMask_and_groupMask hm hn hne, by decide, by decide⟩
  case triple =>
    obtain ⟨b, hb, rfl⟩ := groupMask_eq_some_iff.mp hm
    exact hvalid.bitCount_mask hb

/-! XOR with a mask. -/

theorem xor_xor_self (w m : Word) : w ^^^ m ^^^ m = w := by
  rw [BitVec.xor_assoc, BitVec.xor_self, BitVec.xor_zero]

theorem xor_xor_left_self (w m : Word) : w ^^^ m ^^^ w = m := by
  rw [BitVec.xor_comm w m, xor_xor_self]

/-- An XOR with a mask is invisible under a disjoint one. -/
theorem xor_and_of_and_eq_zero {m n : Word} (hdisjoint : m &&& n = 0#16) (w : Word) : (w ^^^ m) &&& n = w &&& n := by
  refine BitVec.eq_of_getLsbD_eq fun k _ => ?_
  have hbit : (m.getLsbD k && n.getLsbD k) = false := by
    rw [← BitVec.getLsbD_and, hdisjoint, BitVec.getLsbD_zero]
  rw [BitVec.getLsbD_and, BitVec.getLsbD_and, BitVec.getLsbD_xor, Bool.and_xor_distrib_right, hbit, Bool.xor_false]

/-! What the three commands answer (40_route_register.md R100, R101, R103), and the step that takes a word. -/

theorem receiverKept_self (s : State) : ReceiverKept s s.sr s.out := fun _ => ⟨rfl, rfl⟩

theorem exec_nop (s : State) : exec .nop s = .next s := rfl

theorem exec_toggle {s : State} {g : Nat} {m w : Word} (hm : groupMask s.cfg g = some m) (hw : s.state = some w) :
    exec (.toggle g) s = .next { s with state := some (w ^^^ m) } := by
  simp [exec, execToggle, hm, hw]

theorem exec_read {s : State} {w : Word} (hw : s.state = some w) :
    exec .read s = .next (State.emit { s with rdata := some w } (.read w)) := by
  simp [exec, execRead, hw]

/-- A legal word is taken and executed in one step (40_route_register.md R99). -/
theorem step_host_legal {s : State} {w : Command} {rest : List Command} {i : Instr} (hturn : HostTurn s)
    (hcmds : s.cmds = w :: rest) (hdecode : decode s.cfg.nGroups w = .legal i) :
    step s = exec i (s.accept w rest) := by
  simp [step_host hturn, hostStep, hcmds, hdecode]

end Machine

/-! The words of the three commands (30_encoding.md R73). -/

theorem decode_nop_word (n : Nat) : decode n 0x00#8 = .legal .nop := rfl

theorem decode_read_word (n : Nat) : decode n 0xC0#8 = .legal .read := rfl

theorem toggleWord_fields : ∀ g < 8, opField (0x40#8 ||| BitVec.ofNat 8 g) = 0b01#2 ∧
    rsvField (0x40#8 ||| BitVec.ofNat 8 g) = 0#3 ∧ (gidField (0x40#8 ||| BitVec.ofNat 8 g)).toNat = g := by
  decide

theorem decode_toggle_word {n g : Nat} (hfits : g < 8) (hconfigured : g < n) :
    decode n (0x40#8 ||| BitVec.ofNat 8 g) = .legal (.toggle g) := by
  obtain ⟨hop, hrsv, hgid⟩ := toggleWord_fields g hfits
  rw [decode_of_toggle_op hrsv hop, decodeToggle, hgid, if_pos hconfigured]

namespace Machine

/-- Settles O9. -/
theorem nopChangesNothing : Obligations.NopChangesNothing := by
  refine ⟨fun s => ⟨_, _, receiverKept_self s, exec_nop s⟩, by decide, fun s rest hturn hcmds => ?step,
    fun n w hop hfields => ?illegal⟩
  case step =>
    exact ⟨_, _, receiverKept_self s, step_host_legal hturn hcmds (decode_nop_word _)⟩
  case illegal =>
    have hplain : opField w ≠ 0b01#2 := by simp [hop]
    exact decode_illegal_iff.mpr (hfields.imp_right fun hgid => .inr ⟨hplain, hgid⟩)

/-- Settles O10. -/
theorem toggleXorsTheGroupMask : Obligations.ToggleXorsTheGroupMask := by
  refine ⟨fun s g b w hb hw => ⟨_, _, receiverKept_self s, exec_toggle (groupMask_of_group hb) hw⟩,
    fun s g b w rest hturn hfits hcmds hb hw => ?step, fun n w i hop hgid hlegal => ?unconfigured⟩
  case step =>
    have hconfigured : g < s.cfg.nGroups := (List.getElem?_eq_some_iff.mp hb).1
    refine ⟨_, _, receiverKept_self s, ?_⟩
    rw [step_host_legal hturn hcmds (decode_toggle_word hfits hconfigured)]
    exact exec_toggle (s := s.accept _ rest) (groupMask_of_group hb) hw
  case unconfigured =>
    obtain ⟨why, hillegal⟩ := decode_illegal_iff.mpr (.inr (.inl ⟨hop, hgid⟩))
    simp [hillegal] at hlegal

/-- Settles O11: the held host's READ waits, since the step is the driver's. -/
theorem readCopiesStateToRdata : Obligations.ReadCopiesStateToRdata := by
  refine ⟨fun s w hw => ⟨_, _, receiverKept_self s, exec_read hw⟩, fun s w rest hturn hcmds hw => ?step,
    fun s t rest hpin hready _ h => ?held⟩
  case step =>
    refine ⟨_, _, receiverKept_self s, ?_⟩
    rw [step_host_legal hturn hcmds (decode_read_word _), exec_read (s := s.accept _ rest) hw]
    simp [State.emit, State.accept]
  case held =>
    have hframe := driverStep_frame (step_next_held hpin hready h).2
    exact ⟨hframe.cmds, hframe.rdata⟩

/-- Settles O18: what changes is the mask. -/
theorem toggleFlipsExactlyThreeBits : Obligations.ToggleFlipsExactlyThreeBits := by
  intro s g b w hvalid hb hw
  refine ⟨_, _, _, receiverKept_self s, exec_toggle (groupMask_of_group hb) hw, ?three, fun k _ hk => ?outside⟩
  case three => rw [xor_xor_left_self, hvalid.bitCount_mask hb]
  case outside => rw [BitVec.getLsbD_xor, BitGroup.mask_getLsbD_of_not_mem hk, Bool.xor_false]

theorem bitCount_zero : bitCount 0#16 = 0 := by decide

/-- Settles O19: the second XOR cancels the first, and a mask of three bits is not 0. -/
theorem toggleTwiceRestores : Obligations.ToggleTwiceRestores := by
  intro s g b w hb hw
  have hmask := groupMask_of_group hb
  refine ⟨_, _, _, exec_toggle hmask hw, receiverKept_self s, ?twice, fun hvalid hsame => ?once⟩
  case twice =>
    rw [exec_toggle (s := { s with state := some (w ^^^ b.mask) }) hmask rfl, xor_xor_self, ← hw]
  case once =>
    have hword : w ^^^ b.mask = w := Option.some.inj (hsame.trans hw)
    have hzero : b.mask = 0#16 := by rw [← xor_xor_left_self w b.mask, hword, BitVec.xor_self]
    have hcount := hvalid.bitCount_mask hb
    simp [hzero, bitCount_zero] at hcount

/-! Sequences of TOGGLEs (40_route_register.md R106). -/

theorem xorMasks_append (c : BlockConfig) (gs hs : List Nat) :
    xorMasks c (gs ++ hs) = xorMasks c gs ^^^ xorMasks c hs := by
  induction hs using List.reverseRecOn with
  | nil => simp
  | append_singleton hs h ih => rw [← List.append_assoc, xorMasks_concat, ih, xorMasks_concat, BitVec.xor_assoc]

theorem xorMasks_cons {c : BlockConfig} {g : Nat} {m : Word} (hm : groupMask c g = some m) (gs : List Nat) :
    xorMasks c (g :: gs) = m ^^^ xorMasks c gs := by
  rw [← List.singleton_append, xorMasks_append, ← List.nil_append [g], xorMasks_concat, maskOrZero_of_groupMask hm,
    xorMasks_nil, BitVec.zero_xor]

/-- TOGGLEs of configured groups add the XOR of their masks to STATE. -/
theorem execAll_toggles {gs : List Nat} {s : State} {w : Word} (hw : s.state = some w)
    (hconfigured : ∀ g ∈ gs, g < s.cfg.nGroups) :
    execAll (gs.map Instr.toggle) s = .next { s with state := some (w ^^^ xorMasks s.cfg gs) } := by
  induction gs generalizing s w with
  | nil => simp [execAll, ← hw]
  | cons g gs ih =>
    obtain ⟨hg, hgs⟩ := List.forall_mem_cons.mp hconfigured
    obtain ⟨m, hm⟩ := groupMask_isSome_of_lt hg
    simp only [List.map_cons, execAll, exec_toggle hm hw]
    rw [ih (s := { s with state := some (w ^^^ m) }) rfl hgs, xorMasks_cons hm, BitVec.xor_assoc]

theorem oddGroups_congr (c : BlockConfig) {gs hs : List Nat} (hparity : ∀ g, gs.count g % 2 = hs.count g % 2) :
    oddGroups c gs = oddGroups c hs := by
  simp only [oddGroups, hparity]

/-- Settles O20: both sequences add the XOR over the groups of odd count. -/
theorem toggleOrderDoesNotMatter : Obligations.ToggleOrderDoesNotMatter := by
  intro s w gs hs hw hconfigured hparity
  obtain ⟨hgs, hhs⟩ := List.forall_mem_append.mp hconfigured
  refine ⟨List.forall_mem_cons.mpr ⟨?left, List.forall_mem_singleton.mpr ?right⟩, by decide⟩
  case left => exact ⟨_, _, receiverKept_self s, by rw [execAll_toggles hw hgs, xorMasks_oddGroups]⟩
  case right =>
    exact ⟨_, _, receiverKept_self s,
      by rw [execAll_toggles hw hhs, oddGroups_congr s.cfg hparity, xorMasks_oddGroups]⟩

/-! Which steps change STATE (40_route_register.md R107, R108). -/

/-- The host's step takes a TOGGLE of group `g` with mask `m`, at the state word `w`. -/
structure TogglesBy (s t : State) (g : Nat) (m w : Word) : Prop where
  turn : HostTurn s
  mask : groupMask s.cfg g = some m
  word : s.state = some w
  taken : ∃ v rest, s.cmds = v :: rest ∧ decode s.cfg.nGroups v = .legal (.toggle g) ∧
    t = { s.accept v rest with state := some (w ^^^ m) }

theorem TogglesBy.state {s t : State} {g : Nat} {m w : Word} (h : TogglesBy s t g m w) : t.state = some (w ^^^ m) := by
  obtain ⟨v, rest, -, -, rfl⟩ := h.taken
  rfl

/-- An illegal word leaves STATE without a value (60_exceptions.md R173). -/
theorem refused_eq_none_of_state {s t : State} {w : Word} (hpin : s.resetPin = false) (h : step s = .next t)
    (ht : t.state = some w) : t.refused = none := by
  obtain ⟨hreset, -⟩ | ⟨hturn, hdriver⟩ | ⟨hturn, hhost⟩ := step_next h
  · simp [hpin] at hreset
  · exact (driverStep_frame hdriver).refused.trans hturn.notRefused
  · obtain ⟨-, rfl⟩ | ⟨v, rest, i, -, -, hexec⟩ | ⟨v, rest, why, -, -, rfl⟩ := hostStep_next hhost
    · exact hturn.notRefused
    · exact (exec_frame hexec).refused.trans hturn.notRefused
    · simp at ht

/-- A step without reset after which STATE has a value keeps STATE or takes a TOGGLE. -/
theorem step_state_kept_or_toggled {s t : State} {w' : Word} (hpin : s.resetPin = false) (h : step s = .next t)
    (ht : t.state = some w') : t.state = s.state ∨ ∃ g m w, TogglesBy s t g m w := by
  refine or_iff_not_imp_left.mpr fun hchanged => ?_
  obtain ⟨hturn, v, rest, g, m, w, hcmds, hdecode, hmask, hw, -⟩ :=
    onlyToggleAndResetWriteState.2 s t hpin h (refused_eq_none_of_state hpin h ht) hchanged
  have hstep : step s = .next { s.accept v rest with state := some (w ^^^ m) } :=
    (step_host_legal hturn hcmds hdecode).trans (exec_toggle (s := s.accept v rest) hmask hw)
  have hnext := Host.Outcome.next.inj (h.symm.trans hstep)
  exact ⟨g, m, w, hturn, hmask, hw, v, rest, hcmds, hdecode, hnext⟩

/-- Settles O21: by the disjointness of the masks, a change under the mask of `h` comes from no other group. -/
theorem toggleLeavesOtherGroupsAlone : Obligations.ToggleLeavesOtherGroupsAlone := by
  refine ⟨fun s g h b n w hvalid hne hb hn hw => ?toggle,
    fun s t h n w w' hvalid hpin hstep hn hw hw' hchanged => ?step⟩
  case toggle =>
    have hm := groupMask_of_group hb
    exact ⟨_, _, _, receiverKept_self s, exec_toggle hm hw,
      xor_and_of_and_eq_zero (hvalid.groupMask_and_groupMask hm hn hne) w⟩
  case step =>
    obtain hkept | ⟨g, m, w₀, htoggle⟩ := step_state_kept_or_toggled hpin hstep hw'
    · have hsame : w' = w := Option.some.inj (hw'.symm.trans (hkept.trans hw))
      exact absurd (congrArg (· &&& n) hsame) hchanged
    · obtain rfl : w₀ = w := Option.some.inj (htoggle.word.symm.trans hw)
      obtain rfl : w' = w₀ ^^^ m := Option.some.inj (hw'.symm.trans htoggle.state)
      obtain rfl : g = h := by
        by_contra hne
        exact hchanged (xor_and_of_and_eq_zero (hvalid.groupMask_and_groupMask htoggle.mask hn hne) w₀)
      obtain rfl : m = n := Option.some.inj (htoggle.mask.symm.trans hn)
      obtain ⟨v, rest, hcmds, hdecode, rfl⟩ := htoggle.taken
      exact ⟨htoggle.turn, rfl, v, rest, hcmds, hdecode, rfl, rfl⟩

theorem resetBlock_cfg (s : State) : (resetBlock s).cfg = s.cfg := by
  by_cases hvalid : cfgCheck s.cfg.groups = 0#3
  · simp [resetBlock_valid hvalid]
  · simp [resetBlock_invalid hvalid]

/-- No step writes the configuration (10_state.md R38). -/
theorem step_cfg {s t : State} (h : step s = .next t) : t.cfg = s.cfg := by
  obtain ⟨-, rfl⟩ | ⟨-, hdriver⟩ | ⟨-, hhost⟩ := step_next h
  · exact resetBlock_cfg s
  · exact (driverStep_frame hdriver).cfg
  · obtain ⟨-, rfl⟩ | ⟨v, rest, i, -, -, hexec⟩ | ⟨v, rest, why, -, -, rfl⟩ := hostStep_next hhost
    · rfl
    · exact (exec_frame hexec).cfg
    · rfl

/-- In the reference configuration no group has index 15 (00_scope.md R10). -/
theorem reference_mask_getLsbD_fifteen {g : Nat} {m : Word} (hm : groupMask BlockConfig.reference g = some m) :
    m.getLsbD 15 = false := by
  have hindices : ∀ b ∈ BlockConfig.reference.groups, 15 ∉ b.indices := by decide
  obtain ⟨b, hb, rfl⟩ := groupMask_eq_some_iff.mp hm
  exact BitGroup.mask_getLsbD_of_not_mem (hindices b (List.mem_of_getElem? hb))

theorem reference_dflt_getLsbD_fifteen : BlockConfig.reference.dflt.getLsbD 15 = false := by decide

theorem step_keeps_bitFifteenClear {s t : State} (hs : BitFifteenClear s) (h : step s = .next t) :
    BitFifteenClear t := by
  obtain ⟨hcfg, hclear⟩ := hs
  refine ⟨(step_cfg h).trans hcfg, fun w' hw' => ?_⟩
  cases hpin : s.resetPin with
  | true =>
    have hvalid : cfgCheck s.cfg.groups = 0#3 := by rw [hcfg]; decide
    have hdflt := onlyToggleAndResetWriteState.1 s t hpin hvalid h
    obtain rfl : w' = s.cfg.dflt := Option.some.inj (hw'.symm.trans hdflt)
    rw [hcfg]
    exact reference_dflt_getLsbD_fifteen
  | false =>
    obtain hkept | ⟨g, m, w, htoggle⟩ := step_state_kept_or_toggled hpin h hw'
    · exact hclear w' (hkept.symm.trans hw')
    · obtain rfl : w' = w ^^^ m := Option.some.inj (hw'.symm.trans htoggle.state)
      have hmask := htoggle.mask
      rw [hcfg] at hmask
      rw [BitVec.getLsbD_xor, hclear w htoggle.word, reference_mask_getLsbD_fifteen hmask, Bool.xor_false]

/-- Settles O22: STATE is DEFAULT after a reset, and the masks lack bit 15. -/
theorem bitFifteenStaysClear : Obligations.BitFifteenStaysClear := by
  refine ⟨⟨rfl, fun w hw => ?_⟩, fun s t => step_keeps_bitFifteenClear⟩
  obtain rfl : BlockConfig.reference.dflt = w := Option.some.inj hw
  exact reference_dflt_getLsbD_fifteen

end Machine

end Sys2Proof

/-! PROOFS. The serial driver: each of its steps, and a whole write (41_serial_driver.md R121 to R134). -/

namespace Sys2Proof.Machine

/-! The line writes over an ideal link: which of them the receiver reacts to, and how (41_serial_driver.md R133). -/

section idealLink

variable {s : State} (hlink : LinkOk s)

include hlink

theorem driveData_ideal (b : Bool) :
    driveData b s = { s with serData := b, events := s.events ++ [.line .serData b] } := by
  simp [driveData, throughLink_ok hlink]

theorem driveClk_rising (hclk : s.serClk = false) : driveClk true s = { s with
    serClk := true
    sr := s.sr.shiftIn s.serData
    events := s.events ++ [.line .serClk true] } := by
  simp [driveClk, throughLink_ok hlink, hclk]

theorem driveClk_falling :
    driveClk false s = { s with serClk := false, events := s.events ++ [.line .serClk false] } := by
  simp [driveClk, throughLink_ok hlink]

theorem driveLatch_falling :
    driveLatch false s = { s with serLatch := false, events := s.events ++ [.line .serLatch false] } := by
  simp [driveLatch, throughLink_ok hlink]

theorem driveLatch_rising (hlatch : s.serLatch = false) : driveLatch true s = { s with
    serLatch := true
    out := s.sr
    events := s.events ++ [.line .serLatch true, .commit s.sr] } := by
  simp [driveLatch, throughLink_ok hlink, hlatch]

end idealLink

/-- Settles O23: each driver step is its line write and the next value of DRV. -/
theorem driverStepsFollowTheSequencer : Obligations.DriverStepsFollowTheSequencer := by
  refine ⟨fun s w hturn hlink hdrv hw _ => ?start, fun s k f hturn hlink hdrv hf => ?data,
    fun s k hturn hlink hdrv hclk => ?clkHi, fun s k hturn hlink hdrv => ?clkLo,
    fun s hturn hlink hdrv hlatch => ?commit⟩
  case start => rw [step_start hturn hdrv hw, driveLatch_falling hlink]
  case data => rw [step_data hturn hdrv hf, driveData_ideal hlink]
  case clkHi =>
    refine ⟨s.sr.shiftIn s.serData, XWord.shiftIn_zero _ _, fun i hi => XWord.shiftIn_succ _ _ i (by omega), ?_⟩
    rw [step_clkHi hturn hdrv, driveClk_rising hlink hclk]
  case clkLo => rw [step_clkLo hturn hdrv, driveClk_falling hlink, Drv.next]
  case commit => rw [step_commit hturn hdrv, driveLatch_rising hlink hlatch]

/-! The length of a write (41_serial_driver.md R126). -/

theorem stepsLeft_eq_one_iff (d : Drv) : d.stepsLeft = 1 ↔ d = .commit := by
  cases d <;> simp [Drv.stepsLeft]

/-- Settles O24: the driver counts down from 50, no driver step takes a word, and the step it takes at 1 is Commit. -/
theorem writeTakesFiftyDriverSteps : Obligations.WriteTakesFiftyDriverSteps := by
  intro s w hrun hdrv hw
  have hwriting : Writing w s := ⟨⟨hrun, by simp [hdrv]⟩, fun _ => hw, fun hne => absurd hdrv hne⟩
  have hfifty : s.drv.stepsLeft = 50 := by rw [hdrv]; rfl
  have hduring (j : Nat) (hj : j < 50) :
      ∃ u, runs j s = .next u ∧ DriverTurn u ∧ u.drv.stepsLeft = 50 - j ∧ u.cmds = s.cmds := by
    obtain ⟨u, hruns, hu, hleft, hcmds⟩ := hwriting.runs_keeps (P := fun u => u.cmds = s.cmds)
      (fun u v _ _ hdriver hcmds => (driverStep_frame hdriver).cmds.trans hcmds) (hfifty ▸ hj) rfl
    exact ⟨u, hruns, hu.toDriverTurn, hfifty ▸ hleft, hcmds⟩
  refine ⟨?idle, hduring⟩
  obtain ⟨u, hruns, hturn, hleft, -⟩ := hduring 49 (by omega)
  have hcommit := step_commit hturn ((stepsLeft_eq_one_iff _).mp hleft)
  exact ⟨_, (runs_add 49 1 hruns).trans (runs_succ 0 hcommit), rfl, rfl⟩

/-! A whole write (41_serial_driver.md R127, R129). -/

/-- Sixteen shifts leave nothing of what SR held before. -/
theorem shiftBits_sixteen (x : XWord) (f : Word) : shiftBits x f 16 = XWord.ofWord f := by
  refine Vector.ext fun i hi => ?_
  rw [shiftBits_low x f (Nat.le_refl 16) hi, XWord.ofWord_get f i hi]
  simp [hi]

theorem afterBits_sixteen_sr {s : State} (hlink : LinkOk s) (w : Word) :
    (afterBits s w 16).sr = XWord.ofWord w :=
  (throughLink_ok hlink _).trans (shiftBits_sixteen s.sr w)

/-- The `Line` events of the 16 bits, then those of the Commit step, end the trace of a write. -/
theorem afterBits_sixteen_events (s : State) (w : Word) :
    (afterBits s w 16).events ++ [.line .serLatch true, .commit (XWord.ofWord w)] = s.events ++ writeTrace w := by
  have hdown : (List.range 16).reverse = (List.range 16).map (15 - ·) := by decide
  rw [writeTrace, hdown, List.flatMap_map, afterBits, List.append_assoc]

/-- Settles O25: the Commit step after the Start step and the 16 bits. -/
theorem writeSendsAndLatchesTheFrame : Obligations.WriteSendsAndLatchesTheFrame := by
  intro s w hstart hlink
  have hcommit := step_commit (afterBits_driverTurn hstart 16) rfl
  have hlinked : LinkOk (afterBits s w 16) := hlink
  rw [driveLatch_rising hlinked rfl, afterBits_sixteen_sr hlink, afterBits_sixteen_events] at hcommit
  calc runs 50 s = runs 1 (afterBits s w 16) := runs_add 49 1 (runs_afterBits hstart (Nat.le_refl 16))
    _ = _ := runs_succ 0 hcommit
    _ = _ := by simp [afterBits, hstart.clkLow]

/-! The views of a write's events. -/

theorem withoutLines_append (es fs : List Event) : withoutLines (es ++ fs) = withoutLines es ++ withoutLines fs :=
  List.filter_append es fs

theorem withoutLines_flatMap_bitTrace (f : Word) (ks : List Nat) : withoutLines (ks.flatMap (bitTrace f)) = [] := by
  induction ks with
  | nil => rfl
  | cons k ks ih => exact ih

/-- Of a write only its `Commit` is no line write. -/
theorem withoutLines_writeTrace (f : Word) : withoutLines (writeTrace f) = [.commit (XWord.ofWord f)] := by
  rw [writeTrace, withoutLines_append, ← List.singleton_append, withoutLines_append, withoutLines_flatMap_bitTrace]
  rfl

/-- The frame trace is seen in a history without its line writes. -/
theorem commitsOf_withoutLines (es : List Event) : commitsOf (withoutLines es) = commitsOf es := by
  rw [commitsOf, commitsOf, withoutLines, List.filterMap_filter]
  refine List.filterMap_congr fun e _ => ?_
  cases e <;> rfl

/-! The WRITE command and its write (41_serial_driver.md R120, R134). -/

theorem decode_write_word (n : Nat) : decode n 0x80#8 = .legal .write := rfl

theorem step_write {s : State} {rest : List Command} (hturn : HostTurn s) (hcmds : s.cmds = 0x80#8 :: rest) :
    step s = .next { s.accept 0x80#8 rest with busy := true, drv := .start } :=
  step_host_legal hturn hcmds (decode_write_word _)

/-- Settles O30: the host's WRITE step starts a write, which O25 describes. -/
theorem writeRefinesItsAtomicStep : Obligations.WriteRefinesItsAtomicStep := by
  intro s w rest hturn hlink hclk hlatch hcmds hw
  have hstart : WriteStarts { s.accept 0x80#8 rest with busy := true, drv := .start } w :=
    ⟨⟨hturn.noReset, hturn.notRefused, hturn.notHalted⟩, rfl, hw, hclk, hlatch⟩
  have hhistory : withoutLines (s.events ++ .accept 0x80#8 :: writeTrace w) =
      withoutLines (writeAtomic w (s.accept 0x80#8 rest)).events := by
    rw [← List.singleton_append]
    simp only [writeAtomic, accept_events, withoutLines_append, withoutLines_writeTrace, List.append_assoc]
    rfl
  have hcommits : commitsOf (s.events ++ .accept 0x80#8 :: writeTrace w) =
      commitsOf (writeAtomic w (s.accept 0x80#8 rest)).events := by
    rw [← commitsOf_withoutLines, hhistory, commitsOf_withoutLines]
  refine ⟨_, ?run, rfl, hhistory, hcommits, hcommits.trans ?trace⟩
  case run =>
    calc runs 51 s = _ := runs_succ 50 (step_write hturn hcmds)
      _ = _ := writeSendsAndLatchesTheFrame _ w hstart hlink
      _ = _ := by simp [writeAtomic, State.accept, hturn.idle]
  case trace =>
    simp only [writeAtomic, accept_events, commitsOf_append, commitsOf_accept, commitsOf_commit, List.append_nil]

end Sys2Proof.Machine

/-! PROOFS. The configuration check of every reset (60_exceptions.md R170, R172): what each check looks for, the code
that `cfgCheck` answers, and how many groups can pass. -/

namespace Sys2Proof

/-! What each of the four checks looks for (60_exceptions.md R170). -/

theorem countDefect_iff {gs : List BitGroup} : countDefect gs = true ↔ gs.length = 0 ∨ 8 < gs.length := by
  rw [countDefect, Bool.or_eq_true, beq_iff_eq, decide_eq_true_eq]

theorem rangeDefect_iff {gs : List BitGroup} : rangeDefect gs = true ↔ ∃ b ∈ gs, ∃ i ∈ b.indices, 15 < i := by
  simp only [rangeDefect, List.any_eq_true, decide_eq_true_eq]

theorem BitGroup.indices_nodup_iff (b : BitGroup) : b.indices.Nodup ↔ b.i0 ≠ b.i1 ∧ b.i0 ≠ b.i2 ∧ b.i1 ≠ b.i2 := by
  simp [BitGroup.indices, and_assoc]

theorem dupDefect_iff {gs : List BitGroup} : dupDefect gs = true ↔ ∃ b ∈ gs, ¬ b.indices.Nodup := by
  simp only [dupDefect, List.any_eq_true, Bool.or_eq_true, beq_iff_eq, BitGroup.indices_nodup_iff, not_and_or,
    not_not, or_assoc]

theorem BitGroup.shares_eq_false_iff {b c : BitGroup} : b.shares c = false ↔ b.indices.Disjoint c.indices := by
  simp only [BitGroup.shares, List.any_eq_false, List.contains_iff_mem, List.Disjoint, imp_false]

/-- Each entry is checked against the later ones, and so every pair once. -/
theorem overlapDefect_eq_false_iff {gs : List BitGroup} :
    overlapDefect gs = false ↔ gs.Pairwise fun b c => b.indices.Disjoint c.indices := by
  induction gs with
  | nil => simp [overlapDefect]
  | cons b bs ih =>
    simp only [overlapDefect, Bool.or_eq_false_iff, List.any_eq_false, Bool.not_eq_true,
      BitGroup.shares_eq_false_iff, ih, List.pairwise_cons]

/-- Sharing an index is symmetric, so that the order of two positions does not matter. -/
theorem pairwise_disjoint_iff {gs : List BitGroup} :
    (gs.Pairwise fun b c => b.indices.Disjoint c.indices) ↔
      ∀ (g h : Nat) (b c : BitGroup), gs[g]? = some b → gs[h]? = some c → g ≠ h → ∀ i ∈ b.indices, i ∉ c.indices := by
  rw [List.pairwise_iff_getElem]
  constructor
  · intro hpairs g h b c hb hc hne i hib hic
    obtain ⟨hg, rfl⟩ := List.getElem?_eq_some_iff.mp hb
    obtain ⟨hh, rfl⟩ := List.getElem?_eq_some_iff.mp hc
    obtain hlt | hgt := Nat.lt_or_gt_of_ne hne
    · exact hpairs g h hg hh hlt hib hic
    · exact hpairs h g hh hg hgt hic hib
  · intro hpositions g h hg hh hlt i hib hic
    exact hpositions g h _ _ (List.getElem?_eq_getElem hg) (List.getElem?_eq_getElem hh) hlt.ne i hib hic

theorem overlapDefect_iff {gs : List BitGroup} :
    overlapDefect gs = true ↔ ∃ (g h : Nat) (b c : BitGroup), gs[g]? = some b ∧ gs[h]? = some c ∧ g ≠ h ∧
      ∃ i ∈ b.indices, i ∈ c.indices := by
  rw [← Bool.not_eq_false, overlapDefect_eq_false_iff, pairwise_disjoint_iff]
  push Not
  rfl

/-! The code the checks answer together (60_exceptions.md R170, R172). -/

/-- A code stands for its own check failing and every earlier one passing. -/
theorem cfgCheck_code_iff (gs : List BitGroup) :
    (cfgCheck gs = 1#3 ↔ countDefect gs) ∧
    (cfgCheck gs = 2#3 ↔ ¬ countDefect gs ∧ rangeDefect gs) ∧
    (cfgCheck gs = 3#3 ↔ ¬ countDefect gs ∧ ¬ rangeDefect gs ∧ dupDefect gs) ∧
    (cfgCheck gs = 4#3 ↔ ¬ countDefect gs ∧ ¬ rangeDefect gs ∧ ¬ dupDefect gs ∧ overlapDefect gs) ∧
    (cfgCheck gs = 0#3 ↔ ¬ countDefect gs ∧ ¬ rangeDefect gs ∧ ¬ dupDefect gs ∧ ¬ overlapDefect gs) := by
  rw [cfgCheck]
  split_ifs with hcount hrange hdup hoverlap
  · simp [hcount]
  · simp [hcount, hrange]
  · simp [hcount, hrange, hdup]
  · simp [hcount, hrange, hdup, hoverlap]
  · simp [hcount, hrange, hdup, hoverlap]

namespace Machine

/-- The last three checks are those of a valid group table (00_scope.md R8). -/
theorem validGroups_iff {gs : List BitGroup} :
    ValidGroups gs ↔ ¬ rangeDefect gs ∧ ¬ dupDefect gs ∧ ¬ overlapDefect gs := by
  rw [rangeDefect_iff, dupDefect_iff, Bool.not_eq_true, overlapDefect_eq_false_iff, pairwise_disjoint_iff]
  push Not
  exact ⟨fun h => ⟨h.inRange, h.distinct, h.disjoint⟩, fun ⟨hrange, hdistinct, hdisjoint⟩ =>
    ⟨hrange, hdistinct, hdisjoint⟩⟩

theorem cfgCheck_eq_zero_iff {gs : List BitGroup} :
    cfgCheck gs = 0#3 ↔ ¬ countDefect gs ∧ ValidGroups gs := by
  obtain ⟨-, -, -, -, hzero⟩ := cfgCheck_code_iff gs
  rw [hzero, validGroups_iff]

/-! How many groups pass (00_scope.md R6). -/

/-- All the indices of a valid table are distinct. -/
theorem ValidGroups.nodup_flatMap_indices {gs : List BitGroup} (hvalid : ValidGroups gs) :
    (gs.flatMap BitGroup.indices).Nodup :=
  List.nodup_flatMap.mpr ⟨hvalid.distinct, pairwise_disjoint_iff.mpr hvalid.disjoint⟩

theorem length_flatMap_indices (gs : List BitGroup) : (gs.flatMap BitGroup.indices).length = 3 * gs.length := by
  simp [List.length_flatMap, BitGroup.indices, Nat.mul_comm]

/-- Six disjoint triples of indices do not fit in 0 to 15. -/
theorem ValidGroups.length_le_five {gs : List BitGroup} (hvalid : ValidGroups gs) : gs.length ≤ 5 := by
  have hsubset : gs.flatMap BitGroup.indices ⊆ List.range 16 := by
    intro i hi
    obtain ⟨b, hb, hib⟩ := List.mem_flatMap.mp hi
    exact List.mem_range.mpr (Nat.lt_succ_of_le (hvalid.inRange b hb i hib))
  have hfits := (hvalid.nodup_flatMap_indices.subperm hsubset).length_le
  rw [length_flatMap_indices, List.length_range] at hfits
  omega

theorem length_bounds_of_cfgCheck {gs : List BitGroup} (hpass : cfgCheck gs = 0#3) :
    1 ≤ gs.length ∧ gs.length ≤ 5 := by
  obtain ⟨hcount, hvalid⟩ := cfgCheck_eq_zero_iff.mp hpass
  obtain ⟨hnonempty, -⟩ := not_or.mp (mt countDefect_iff.mpr hcount)
  exact ⟨Nat.one_le_iff_ne_zero.mpr hnonempty, hvalid.length_le_five⟩

/-- Settles O36: each check finds exactly its defect, and 16 indices hold at most five disjoint triples. -/
theorem configCheckReportsFirstDefect : Obligations.ConfigCheckReportsFirstDefect := by
  intro gs
  obtain ⟨hone, htwo, hthree, hfour, hzero⟩ := cfgCheck_code_iff gs
  rw [countDefect_iff] at hone
  rw [countDefect_iff, rangeDefect_iff] at htwo
  rw [countDefect_iff, rangeDefect_iff, dupDefect_iff] at hthree
  rw [countDefect_iff, rangeDefect_iff, dupDefect_iff, overlapDefect_iff] at hfour hzero
  exact ⟨hone, htwo, hthree, hfour, hzero, length_bounds_of_cfgCheck, by decide⟩

end Machine

end Sys2Proof

/-! PROOFS. Decoding and encoding agree, and how many words are legal (30_encoding.md sections 1 to 3). -/

namespace Sys2Proof

/-! The fields of a command's word, and the word that decodes to a command (30_encoding.md R71 to R74). -/

/-- The GID field of a command's word (30_encoding.md R72, R77). -/
def Instr.gid : Instr → BitVec 3
  | .nop => 0#3
  | .toggle g => BitVec.ofNat 3 g
  | .write => 0#3
  | .read => 0#3

theorem gidField_toggle (g : Nat) : gidField (encode (.toggle g)) = BitVec.ofNat 3 g := by
  have hlow : ∀ v : BitVec 3, gidField (0b01#2 ++ 0b000#3 ++ v) = v := by decide
  exact hlow _

theorem wordFields (i : Instr) : Laws.WordFields.Statement i := by
  cases i with
  | nop => exact Laws.WordFields.nop
  | toggle g => exact Laws.WordFields.toggle g
  | write => exact Laws.WordFields.write
  | read => exact Laws.WordFields.read

theorem gidField_encode (i : Instr) : gidField (encode i) = i.gid := by
  obtain ⟨-, -, hplain⟩ := wordFields i
  cases i with
  | nop => exact hplain nofun
  | toggle g => exact gidField_toggle g
  | write => exact hplain nofun
  | read => exact hplain nofun

/-- A word is a command's encoding exactly when its three fields are the command's. -/
theorem encode_eq_iff {i : Instr} {w : Command} :
    encode i = w ↔ opField w = Laws.opOf i ∧ rsvField w = 0#3 ∧ gidField w = i.gid := by
  obtain ⟨hop, hrsv, -⟩ := wordFields i
  rw [command_eq_iff_fields, hop, hrsv, gidField_encode, eq_comm, eq_comm (a := 0#3), eq_comm (a := i.gid)]

theorem decodePlain_legal_iff {i j : Instr} {w : Command} :
    decodePlain j w = .legal i ↔ gidField w = 0#3 ∧ j = i := by
  by_cases hgid : gidField w = 0#3 <;> simp [decodePlain, hgid]

theorem decodeToggle_legal_iff {n : Nat} {i : Instr} {w : Command} :
    decodeToggle n w = .legal i ↔ (gidField w).toNat < n ∧ .toggle (gidField w).toNat = i := by
  by_cases hgid : (gidField w).toNat < n <;> simp [decodeToggle, hgid]

/-- Of the four values of OP the decoder's last branch is left with READ's. -/
theorem op_eq_read : ∀ op : BitVec 2, op ≠ 0b00#2 → op ≠ 0b01#2 → op ≠ 0b10#2 → op = 0b11#2 := by decide

/-- What a legal word says, branch by branch of the decoder: its fields are its command's, and the command is well
formed. -/
theorem decode_legal_fields {n : Nat} {w : Command} {i : Instr} (h : decode n w = .legal i) :
    (opField w = Laws.opOf i ∧ rsvField w = 0#3 ∧ gidField w = i.gid) ∧ i.wellFormed n = true := by
  unfold decode at h
  split_ifs at h with hrsv hnop htoggle hwrite
  case pos =>
    obtain ⟨hgid, rfl⟩ := decodePlain_legal_iff.mp h
    exact ⟨⟨hnop, not_not.mp hrsv, hgid⟩, rfl⟩
  case pos =>
    obtain ⟨hconfigured, rfl⟩ := decodeToggle_legal_iff.mp h
    refine ⟨⟨htoggle, not_not.mp hrsv, by simp [Instr.gid]⟩, ?_⟩
    simp [Instr.wellFormed, Instr.gidFits, Instr.gidConfigured, hconfigured, (gidField w).isLt]
  case pos =>
    obtain ⟨hgid, rfl⟩ := decodePlain_legal_iff.mp h
    exact ⟨⟨hwrite, not_not.mp hrsv, hgid⟩, rfl⟩
  case neg =>
    obtain ⟨hgid, rfl⟩ := decodePlain_legal_iff.mp h
    exact ⟨⟨op_eq_read _ hnop htoggle hwrite, not_not.mp hrsv, hgid⟩, rfl⟩

/-- The word 0x40 | g of 30_encoding.md section 2. -/
theorem encode_toggle_word : ∀ g < 8, encode (.toggle g) = 0x40#8 ||| BitVec.ofNat 8 g := by decide

theorem wellFormed_toggle_iff {n g : Nat} : (Instr.toggle g).wellFormed n = true ↔ g < 8 ∧ g < n := by
  simp [Instr.wellFormed, Instr.gidFits, Instr.gidConfigured]

theorem decode_encode {n : Nat} {i : Instr} (hwf : i.wellFormed n = true) : decode n (encode i) = .legal i := by
  cases i with
  | nop => rfl
  | toggle g =>
    obtain ⟨hfits, hconfigured⟩ := wellFormed_toggle_iff.mp hwf
    rw [encode_toggle_word g hfits, decode_toggle_word hfits hconfigured]
  | write => rfl
  | read => rfl

/-- Settles O1: a legal word's fields are its command's, so the word is the encoding; and an encoding decodes to its
command. -/
theorem decodeAndEncodeAgree : Obligations.DecodeAndEncodeAgree := by
  intro n w i
  constructor
  · intro h
    obtain ⟨hfields, hwf⟩ := decode_legal_fields h
    exact ⟨hwf, encode_eq_iff.mpr hfields⟩
  · rintro ⟨hwf, rfl⟩
    exact decode_encode hwf

/-- Settles O2: each of the eight words is the encoding of its command. -/
theorem opcodeMapWordsDecode : Obligations.OpcodeMapWordsDecode :=
  ⟨decode_encode (i := .nop) rfl, decode_encode (i := .toggle 0) rfl, decode_encode (i := .toggle 1) rfl,
    decode_encode (i := .toggle 2) rfl, decode_encode (i := .toggle 3) rfl, decode_encode (i := .toggle 4) rfl,
    decode_encode (i := .write) rfl, decode_encode (i := .read) rfl⟩

/-! The count of the legal words (30_encoding.md section 3). -/

/-- The commands of a configuration of `n` groups. -/
def commandsOf (n : Nat) : List Instr := [.nop, .write, .read] ++ (List.range n).map .toggle

theorem mem_commandsOf_iff {n : Nat} {i : Instr} (hn : n ≤ 8) : i ∈ commandsOf n ↔ i.wellFormed n = true := by
  cases i with
  | toggle g =>
    have hmem : Instr.toggle g ∈ commandsOf n ↔ g < n := by simp [commandsOf]
    rw [hmem, wellFormed_toggle_iff]
    omega
  | nop => exact iff_of_true (by simp [commandsOf]) rfl
  | write => exact iff_of_true (by simp [commandsOf]) rfl
  | read => exact iff_of_true (by simp [commandsOf]) rfl

theorem commandsOf_nodup (n : Nat) : (commandsOf n).Nodup := by
  have htoggles : ((List.range n).map Instr.toggle).Nodup :=
    List.nodup_range.map fun _ _ h => Instr.toggle.inj h
  simp [commandsOf, htoggles]

/-- Well-formed commands have words of their own. -/
theorem encode_inj {n : Nat} {i j : Instr} (hi : i.wellFormed n = true) (hj : j.wellFormed n = true)
    (h : encode i = encode j) : i = j := by
  have hdecode := decode_encode hi
  rw [h, decode_encode hj] at hdecode
  exact (Decoded.legal.inj hdecode).symm

/-- The 256 words. -/
def allWords : List Command := (List.range 256).map (BitVec.ofNat 8)

theorem mem_allWords (w : Command) : w ∈ allWords :=
  List.mem_map.mpr ⟨w.toNat, List.mem_range.mpr w.isLt, by simp⟩

theorem allWords_nodup : allWords.Nodup := by
  refine List.nodup_range.map_on fun a ha b hb h => ?_
  have hval := congrArg BitVec.toNat h
  simpa [Nat.mod_eq_of_lt (List.mem_range.mp ha), Nat.mod_eq_of_lt (List.mem_range.mp hb)] using hval

/-- The legal words are the encodings of the commands. -/
theorem filter_allWords_perm {n : Nat} (hn : n ≤ 8) {p : Command → Bool}
    (hp : ∀ w, p w = true ↔ ∃ i, decode n w = .legal i) : (allWords.filter p).Perm ((commandsOf n).map encode) := by
  have hcodes : ((commandsOf n).map encode).Nodup :=
    (commandsOf_nodup n).map_on fun i hi j hj =>
      encode_inj ((mem_commandsOf_iff hn).mp hi) ((mem_commandsOf_iff hn).mp hj)
  refine (List.perm_ext_iff_of_nodup (allWords_nodup.filter p) hcodes).mpr fun w => ?_
  simp only [List.mem_filter, mem_allWords w, true_and, hp, decodeAndEncodeAgree n w, List.mem_map,
    mem_commandsOf_iff hn]

theorem length_commandsOf (n : Nat) : (commandsOf n).length = 3 + n := by
  simp only [commandsOf, List.length_append, List.length_map, List.length_range]
  rfl

/-- Settles O4: the commands of `n` groups are 3 + `n`, each with a word of its own. -/
theorem legalWordsAreThreePlusGroups : Obligations.LegalWordsAreThreePlusGroups := by
  intro n hn
  refine (filter_allWords_perm hn fun w => ?_).length_eq.trans ?_
  · cases hdecode : decode n w <;> simp
  · rw [List.length_map, length_commandsOf]

end Sys2Proof

/-! PROOFS. The step of the host and its commands: what a step runs, what every command leaves alone, and where a
command stops (40_route_register.md R99, 42_control_loop.md R152 to R154, 60_exceptions.md section 3, R173). -/

namespace Sys2Proof.Machine

/-- Settles O6. -/
theorem stepRunsTheDecodedCommand : Obligations.StepRunsTheDecodedCommand :=
  fun _ _ _ _ hturn hcmds hdecode => step_host_legal hturn hcmds hdecode

theorem step_poll {s : State} (hturn : HostTurn s) (hcmds : s.cmds = []) : step s = .next (pollSources s) := by
  simp [step_host hturn, hostStep, hcmds]

/-- Settles O8: polling takes the next draw, and with none left makes no word. -/
theorem hostPollsItsSourcesInOrder : Obligations.HostPollsItsSourcesInOrder := by
  refine ⟨fun s e es hturn hcmds hedges => ?draw, fun s hturn hcmds hedges => ?noDraw⟩
  case draw =>
    refine ⟨_, _, receiverKept_self s, ?_⟩
    rw [step_poll hturn hcmds, pollSources, hedges]
    rfl
  case noDraw =>
    refine ⟨_, _, receiverKept_self s, ?_⟩
    have hnone : iterationCommands s.cfg [] = [] := by simp [iterationCommands]
    rw [step_poll hturn hcmds, pollSources, hedges, List.headD_nil, List.tail_nil, hnone, ← hcmds, ← hedges]

theorem exec_write (s : State) : exec .write s = .next { s with busy := true, drv := .start } := rfl

/-- Settles O12. -/
theorem writeStartsTheDriver : Obligations.WriteStartsTheDriver :=
  ⟨fun s => ⟨_, _, receiverKept_self s, exec_write s⟩,
    fun s _ hturn hcmds => ⟨_, _, receiverKept_self s, step_write hturn hcmds⟩⟩

/-! Where a command stops. -/

theorem exec_toggle_unconfigured {s : State} {g : Nat} (hg : s.cfg.groups[g]? = none) :
    exec (.toggle g) s = .refused (.unknownGroup g) := by
  simp [exec, execToggle, groupMask, hg]

theorem exec_toggle_noValue {s : State} {g : Nat} {b : BitGroup} (hb : s.cfg.groups[g]? = some b)
    (hstate : s.state = none) : exec (.toggle g) s = .fault (.noValue .state) := by
  simp [exec, execToggle, groupMask_of_group hb, hstate]

theorem exec_read_noValue {s : State} (hstate : s.state = none) : exec .read s = .fault (.noValue .state) := by
  simp [exec, execRead, hstate]

/-- A command answers wherever what it reads is there: TOGGLE its group and STATE, READ its STATE. -/
theorem exec_answers {i : Instr} {s : State} (hgroup : ∀ g, i = .toggle g → s.cfg.groups[g]? ≠ none ∧ s.state ≠ none)
    (hread : i = .read → s.state ≠ none) : ∃ t, exec i s = .next t := by
  cases i with
  | nop => exact ⟨_, exec_nop s⟩
  | toggle g =>
    obtain ⟨hg, hstate⟩ := hgroup g rfl
    obtain ⟨b, hb⟩ := Option.ne_none_iff_exists'.mp hg
    obtain ⟨w, hw⟩ := Option.ne_none_iff_exists'.mp hstate
    exact ⟨_, exec_toggle (groupMask_of_group hb) hw⟩
  | write => exact ⟨_, exec_write s⟩
  | read =>
    obtain ⟨w, hw⟩ := Option.ne_none_iff_exists'.mp (hread rfl)
    exact ⟨_, exec_read hw⟩

theorem exec_answers_of_wellFormed {i : Instr} {s : State} (hwf : i.wellFormed s.cfg.nGroups = true)
    (hstate : s.state ≠ none) : ∃ t, exec i s = .next t := by
  refine exec_answers (fun g hi => ⟨?_, hstate⟩) fun _ => hstate
  subst hi
  have hconfigured : g < s.cfg.groups.length := (wellFormed_toggle_iff.mp hwf).2
  simp [hconfigured]

/-- Settles O13: the five clauses are what TOGGLE and READ answer without what they read, and that a command answers
with it. -/
theorem commandsStopOnlyWithoutGroupOrState : Obligations.CommandsStopOnlyWithoutGroupOrState := by
  refine ⟨fun _ _ => exec_toggle_unconfigured, fun _ _ _ => exec_toggle_noValue, fun _ => exec_read_noValue,
    fun i s hstops => ?only, fun _ _ => exec_answers_of_wellFormed⟩
  case only =>
    by_contra hneither
    obtain ⟨hgroup, hread⟩ := not_or.mp hneither
    obtain ⟨t, hnext⟩ := exec_answers (i := i) (s := s)
      (fun g hi => not_or.mp fun hnone => hgroup ⟨g, hi, hnone⟩) (fun hi hnone => hread ⟨hi, hnone⟩)
    exact hstops t hnext

/-- Settles O14. -/
theorem commandsLeaveTheLinesToTheDriver : Obligations.CommandsLeaveTheLinesToTheDriver := by
  intro i s t h
  have hframe := exec_frame h
  exact ⟨hframe.serData, hframe.serClk, hframe.serLatch, hframe.frame, fun _ => ⟨hframe.sr, hframe.out⟩, hframe.cfg,
    hframe.halted, hframe.cfgCause, hframe.refused, hframe.linkOk, hframe.resetPin, hframe.cmds, hframe.edges⟩

/-! The refusal mark (60_exceptions.md R173). -/

theorem step_illegal {s : State} {w : Command} {rest : List Command} {why : IllegalReason} (hturn : HostTurn s)
    (hcmds : s.cmds = w :: rest) (hdecode : decode s.cfg.nGroups w = .illegal why w) :
    step s = .next (refuseIllegal w (s.accept w rest)) := by
  simp [step_host hturn, hostStep, hcmds, hdecode]

theorem step_of_refused {s : State} {w : Command} (hpin : s.resetPin = false) (hrefused : s.refused = some w) :
    step s = .refused (.illegalCommand w) := by
  simp [step, agentStep, hpin, hrefused]

/-- Settles O15: no agent has a step under the mark, and a reset leaves it. -/
theorem illegalWordMarksTheRun : Obligations.IllegalWordMarksTheRun := by
  refine ⟨fun s w rest why hturn hcmds hdecode => ?sets, fun _ _ => step_of_refused, fun s t w hrefused h => ?keeps⟩
  case sets =>
    refine ⟨_, step_illegal hturn hcmds hdecode, rfl, by simp, ?_⟩
    exact step_of_refused hturn.noReset rfl
  case keeps =>
    obtain ⟨-, rfl⟩ | ⟨hturn, -⟩ | ⟨hturn, -⟩ := step_next h
    · rw [resetBlock_refused, hrefused]
    · simp [hturn.notRefused] at hrefused
    · simp [hturn.notRefused] at hrefused

end Sys2Proof.Machine

/-! PROOFS. Reset (70_reset_and_hazards.md R190, R191), the halted block (60_exceptions.md R171), the valid
configurations, and who writes HALTED and CFG_CAUSE (10_state.md section 4). -/

namespace Sys2Proof.Machine

/-- Settles O37: the check is of the count and of the table, and a valid table has at most five groups. -/
theorem passingConfigurationsHaveOneToFiveGroups : Obligations.PassingConfigurationsHaveOneToFiveGroups := by
  intro gs
  constructor
  · intro hpass
    exact ⟨(cfgCheck_eq_zero_iff.mp hpass).2, length_bounds_of_cfgCheck hpass⟩
  · rintro ⟨hvalid, hone, hfive⟩
    refine cfgCheck_eq_zero_iff.mpr ⟨fun hcount => ?_, hvalid⟩
    have hlength := countDefect_iff.mp hcount
    omega

/-- Settles O17: a bit of a mask is set when its place is one of the indices, wherever it stands among them. -/
theorem indexOrderDoesNotMatter : Obligations.IndexOrderDoesNotMatter := by
  intro b c hperm
  refine BitVec.eq_of_getLsbD_eq fun k _ => Bool.eq_iff_iff.mpr ?_
  rw [b.mask_getLsbD, c.mask_getLsbD, hperm.mem_iff]

/-! The state after a reset. -/

theorem reset_eq_powerOn : State.reset = powerOn BlockConfig.reference := by
  have hvalid : cfgCheck BlockConfig.reference.groups = 0#3 := by decide
  rw [powerOn, resetBlock_valid hvalid]
  rfl

/-- Settles O32. -/
theorem powerOnResetValues : Obligations.PowerOnResetValues :=
  ⟨reset_eq_powerOn, rfl, rfl, rfl, rfl, rfl, rfl, rfl, rfl, rfl, rfl, rfl, rfl, rfl, rfl, rfl⟩

/-- Settles O33. -/
theorem resetLoadsTheResetValues : Obligations.ResetLoadsTheResetValues := by
  intro s hpin hvalid
  refine ⟨s.sr, XWord.noValue, fun _ => ⟨rfl, rfl⟩, ?_⟩
  rw [step_reset hpin, resetBlock_valid hvalid]
  rfl

/-- In a halted block no agent has a step (60_exceptions.md R171, 70_reset_and_hazards.md R207). -/
theorem step_of_halted {s : State} (hpin : s.resetPin = false) (hrefused : s.refused = none)
    (hhalted : s.halted = true) : step s = .fault (.halted s.cfgCause) := by
  simp [step, agentStep, hpin, hrefused, hhalted]

/-- Settles O34. -/
theorem invalidConfigurationHalts : Obligations.InvalidConfigurationHalts := by
  intro s hpin hinvalid
  have hreset : step s = .next (raiseCfgDefect (cfgCheck s.cfg.groups) (beginRun s)) := by
    rw [step_reset hpin, resetBlock_invalid hinvalid]
  exact ⟨_, s.sr, XWord.noValue, hreset, fun _ => ⟨rfl, rfl⟩, rfl, fun hrefused => step_of_halted rfl hrefused rfl⟩

/-- Settles O44. -/
theorem toggledDefaultAtReset : Obligations.ToggledDefaultAtReset :=
  ⟨reset_eq_powerOn ▸ resetBlock_stateIsToggledDefault _, fun _ => resetBlock_stateIsToggledDefault _⟩

/-! Who writes HALTED and CFG_CAUSE. -/

theorem resetBlock_cfgCause (s : State) : (resetBlock s).cfgCause = cfgCheck s.cfg.groups := by
  by_cases hvalid : cfgCheck s.cfg.groups = 0#3
  · simp [hvalid]
  · simp [resetBlock_invalid hvalid]

theorem resetBlock_halted_iff (s : State) : (resetBlock s).halted = true ↔ cfgCheck s.cfg.groups ≠ 0#3 := by
  by_cases hvalid : cfgCheck s.cfg.groups = 0#3
  · simp [hvalid]
  · simp [hvalid]

theorem cfgCheck_le_four (gs : List BitGroup) : (cfgCheck gs).toNat ≤ 4 := by
  unfold cfgCheck
  split_ifs <;> decide

theorem step_keeps_haltFields {s t : State} (hpin : s.resetPin = false) (h : step s = .next t)
    (hrefused : t.refused = none) : t.halted = s.halted ∧ t.cfgCause = s.cfgCause := by
  obtain ⟨-, hdriver⟩ | ⟨-, rfl⟩ | ⟨-, w, rest, i, -, -, hexec⟩ := step_next_unrefused hpin h hrefused
  · exact ⟨(driverStep_frame hdriver).halted, (driverStep_frame hdriver).cfgCause⟩
  · exact ⟨rfl, rfl⟩
  · exact ⟨(exec_frame hexec).halted, (exec_frame hexec).cfgCause⟩

/-- Settles O41: outside reset and refusal both agents keep the two fields, and the reset's check writes them. -/
theorem configurationIsReadOnly : Obligations.ConfigurationIsReadOnly := by
  refine ⟨fun s t => step_cfg, fun s t => step_keeps_haltFields, fun s t hpin h => ?reset,
    busyAndHaltedHoldTheHost.2.2.2.2, cfgCheck_le_four⟩
  case reset =>
    obtain rfl := step_next_of_reset hpin h
    exact ⟨resetBlock_cfgCause s, resetBlock_halted_iff s⟩

/-! The initial write (70_reset_and_hazards.md R191). -/

theorem writeStarts_of_reset {s : State} (hrefused : s.refused = none) (hvalid : cfgCheck s.cfg.groups = 0#3) :
    WriteStarts (resetBlock s) s.cfg.dflt := by
  rw [resetBlock_valid hvalid]
  exact ⟨⟨rfl, hrefused, rfl⟩, rfl, rfl, rfl, rfl⟩

theorem resetBlock_linkOk (s : State) : (resetBlock s).linkOk = s.linkOk := by
  by_cases hvalid : cfgCheck s.cfg.groups = 0#3
  · simp [resetBlock_valid hvalid]
  · simp [resetBlock_invalid hvalid]

theorem commitsOf_writeTrace (f : Word) : commitsOf (writeTrace f) = [XWord.ofWord f] := by
  rw [← commitsOf_withoutLines, withoutLines_writeTrace, commitsOf_commit]

/-- A driver step other than Commit adds no `Commit` event, over any link (41_serial_driver.md R131). -/
theorem driverStep_commitsOf {s t : State} (hdrv : s.drv ≠ .commit) (h : driverStep s = .next t) :
    commitsOf t.events = commitsOf s.events := by
  obtain ⟨w, -, -, rfl⟩ | ⟨k, f, -, -, rfl⟩ | ⟨k, -, rfl⟩ | ⟨k, -, rfl⟩ | ⟨hcommit, -⟩ := driverStep_next h
  case inr.inr.inr.inr => exact absurd hcommit hdrv
  all_goals simp

/-- The host is held, no word has been taken and nothing is committed: a run with the words `ws` to issue, up to its
initial commit (70_reset_and_hazards.md R191). -/
structure BeforeCommit (ws : List Command) (s : State) : Prop where
  busy : s.busy = true
  cmds : s.cmds = ws
  commits : commitsOf s.events = []
  accepts : ∀ w, Event.accept w ∉ s.events

theorem BeforeCommit.of_driverStep {ws : List Command} {s t : State} (hs : BeforeCommit ws s)
    (hdrv : s.drv ≠ .commit) (h : driverStep s = .next t) : BeforeCommit ws t := by
  have hframe := driverStep_frame h
  obtain ⟨es, hevents, haccepts⟩ := hframe.events
  exact ⟨(driverStep_busy h hdrv).trans hs.busy, hframe.cmds.trans hs.cmds,
    (driverStep_commitsOf hdrv h).trans hs.commits, by simp [hevents, hs.accepts, haccepts]⟩

theorem beforeCommit_of_reset {s : State} (hvalid : cfgCheck s.cfg.groups = 0#3) :
    BeforeCommit s.cmds (resetBlock s) := by
  rw [resetBlock_valid hvalid]
  exact ⟨rfl, rfl, rfl, fun _ => List.not_mem_nil⟩

/-- Settles O35: the reset, then the write that O25 describes, of which every step but the last holds the host. -/
theorem resetMakesTheInitialWrite : Obligations.ResetMakesTheInitialWrite := by
  intro s hpin hrefused hlink hvalid
  have hstart := writeStarts_of_reset hrefused hvalid
  have hreset := step_reset hpin
  refine ⟨?write, fun j hpos hj => ?hold⟩
  case write =>
    have hlinked : LinkOk (resetBlock s) := (resetBlock_linkOk s).trans hlink
    have hruns := (runs_succ 50 hreset).trans (writeSendsAndLatchesTheFrame _ _ hstart hlinked)
    have hevents : (resetBlock s).events = [] := by simp [resetBlock_valid hvalid]
    exact ⟨_, hruns, ⟨⟨hstart.noReset, hstart.notRefused, hstart.notHalted⟩, rfl, rfl⟩, hstart.word, rfl,
      by simp [hevents], by simp [hevents, commitsOf_writeTrace]⟩
  case hold =>
    obtain ⟨i, rfl⟩ := Nat.exists_eq_succ_of_ne_zero hpos.ne'
    have hleft : i < (resetBlock s).drv.stepsLeft := by
      rw [hstart.start]
      exact Nat.lt_of_succ_lt_succ hj
    obtain ⟨u, hruns, -, -, hu⟩ := hstart.writing.runs_keeps (P := BeforeCommit s.cmds)
      (fun _ _ _ hdrv hdriver hv => hv.of_driverStep hdrv hdriver) hleft (beforeCommit_of_reset hvalid)
    exact ⟨u, (runs_succ i hreset).trans hruns, hu.busy, hu.cmds, hu.commits, hu.accepts⟩

end Sys2Proof.Machine

/-! PROOFS. The invariant of block and receiver (10_state.md sections 2 to 7): it holds after every reset, and the
steps of both agents keep it. -/

namespace Sys2Proof.Machine

@[simp] theorem commitsOf_cfgDefect (c : BitVec 3) : commitsOf [.cfgDefect c] = [] := rfl

/-- Each clause reads off the values the reset loads, with an empty history. -/
theorem loadResetValues_coherent {s : State} (hvalid : cfgCheck s.cfg.groups = 0#3) :
    Coherent (loadResetValues (beginRun s)) := by
  constructor <;> simp [hvalid]

/-- Each clause reads off the values of the halted block, whose history holds no commit. -/
theorem raiseCfgDefect_coherent {s : State} (hinvalid : cfgCheck s.cfg.groups ≠ 0#3) :
    Coherent (raiseCfgDefect (cfgCheck s.cfg.groups) (beginRun s)) := by
  constructor <;> simp [hinvalid]

theorem resetBlock_coherent (s : State) : Coherent (resetBlock s) := by
  by_cases hvalid : cfgCheck s.cfg.groups = 0#3
  · rw [resetBlock_valid hvalid]
    exact loadResetValues_coherent hvalid
  · rw [resetBlock_invalid hvalid]
    exact raiseCfgDefect_coherent hvalid

/-- Settles O42: a power-on is a reset. -/
theorem runInvariantAtReset : Obligations.RunInvariantAtReset :=
  ⟨fun _ => reset_eq_powerOn ▸ resetBlock_coherent _, fun _ _ => resetBlock_coherent _⟩

/-! The host's steps. -/

/-- The host is held until the initial commit (70_reset_and_hazards.md R191). -/
theorem Coherent.commits_ne_nil {s : State} (hs : Coherent s) (hturn : HostTurn s) : commitsOf s.events ≠ [] := by
  intro hnone
  have hbusy := (hs.before_commit hturn.notHalted hnone).1
  simp [hturn.notBusy] at hbusy

theorem Coherent.frame_eq_none {s : State} (hs : Coherent s) (hturn : HostTurn s) : s.frame = none := by
  have hnone := mt hs.frame_iff.mp (by simp [hturn.idle])
  simpa using hnone

/-- A command leaves the sequencer at Idle, or as a WRITE does at Start with BUSY set (41_serial_driver.md R120). -/
theorem exec_sequencer {i : Instr} {s t : State} (hidle : s.drv = .idle) (hbusy : s.busy = false)
    (h : exec i s = .next t) : (t.drv = .idle ∧ t.busy = false) ∨ (t.drv = .start ∧ t.busy = true) := by
  obtain ⟨-, rfl⟩ | ⟨g, m, w, -, -, -, rfl⟩ | ⟨-, rfl⟩ | ⟨w, -, -, rfl⟩ := exec_next h
  · exact .inl ⟨hidle, hbusy⟩
  · exact .inl ⟨hidle, hbusy⟩
  · exact .inr ⟨rfl, rfl⟩
  · exact .inl ⟨hidle, hbusy⟩

theorem exec_state_isSome {i : Instr} {s t : State} (h : exec i s = .next t) : t.state.isSome = s.state.isSome := by
  obtain ⟨-, rfl⟩ | ⟨g, m, w, -, -, hw, rfl⟩ | ⟨-, rfl⟩ | ⟨w, -, -, rfl⟩ := exec_next h
  case inr.inl => simp [hw]
  all_goals rfl

/-- Between writes no clause speaks of the frame, and what it says of the lines and of OUT no command touches. -/
theorem Coherent.of_command {s t : State} {w : Command} {rest : List Command} {i : Instr} (hs : Coherent s)
    (hturn : HostTurn s) (h : exec i (s.accept w rest) = .next t) : Coherent t := by
  have hframe := exec_frame h
  have hcommits : commitsOf t.events = commitsOf s.events := by simp [hframe.commitsOf_eq]
  have hsome := hs.commits_ne_nil hturn
  have hnoFrame : t.frame = none := hframe.frame.trans (hs.frame_eq_none hturn)
  have hdrv := exec_sequencer (s := s.accept w rest) hturn.idle hturn.notBusy h
  have hrest : s.drv.presented = none := by rw [hturn.idle]; rfl
  exact
    { busy_iff := by obtain ⟨hd, hb⟩ | ⟨hd, hb⟩ := hdrv <;> simp [hd, hb]
      clk_iff := by
        rw [hframe.serClk, accept_serClk, hs.clk_iff, hturn.idle]
        obtain ⟨hd, -⟩ | ⟨hd, -⟩ := hdrv <;> simp [hd]
      latch_iff := by
        rw [hframe.serLatch, accept_serLatch, hs.latch_iff, hturn.idle]
        obtain ⟨hd, -⟩ | ⟨hd, -⟩ := hdrv <;> simp [hd]
      cause_eq := by rw [hframe.cfgCause, hframe.cfg]; exact hs.cause_eq
      halted_iff := by rw [hframe.halted, hframe.cfg]; exact hs.halted_iff
      halted_lines := by simp [hframe.halted, hturn.notHalted]
      state_iff := by rw [exec_state_isSome h, hframe.halted]; exact hs.state_iff
      frame_iff := by obtain ⟨hd, -⟩ | ⟨hd, -⟩ := hdrv <;> simp [hnoFrame, hd]
      frame_eq := by simp [hnoFrame]
      data_eq := by simp [hnoFrame]
      data_rest := by
        rw [hframe.linkOk, hcommits, hframe.serData]
        exact fun hlink _ => hs.data_rest hlink hrest
      data_reset := by simp [hcommits, hsome]
      sr_prefix := by simp [hnoFrame]
      out_last := by rw [hframe.linkOk, hcommits, hframe.out]; exact hs.out_last
      first_commit := by rw [hframe.linkOk, hcommits, hframe.cfg]; exact hs.first_commit
      before_commit := by simp [hcommits, hsome] }

theorem Coherent.of_poll {s : State} (hs : Coherent s) : Coherent (pollSources s) := { hs with }

/-! The driver's steps. -/

/-- After ClkLo(k) comes the next bit, or after bit 0 the Commit step (10_state.md R26). -/
theorem next_clkLo_cases (k : Fin 16) :
    (∃ j : Fin 16, j.val + 1 = k.val ∧ Drv.next (.clkLo k) = .data j) ∨ (k = 0 ∧ Drv.next (.clkLo k) = .commit) := by
  by_cases hk : 0 < k.val
  · exact .inl ⟨⟨k.val - 1, by omega⟩, Nat.sub_add_cancel hk, if_pos hk⟩
  · exact .inr ⟨Fin.ext (by simpa using hk), if_neg hk⟩

/-- The bit of ClkLo(k) stays on SER_DATA until the next is presented. -/
theorem presented_next_clkLo (k : Fin 16) : (Drv.next (.clkLo k)).presented = some k := by
  obtain ⟨j, hj, hnext⟩ | ⟨rfl, hnext⟩ := next_clkLo_cases k
  · have hlt : j.val < 15 := by omega
    simp [hnext, Drv.presented, hlt, hj]
  · rw [hnext]; rfl

theorem shifted_next_clkLo (k : Fin 16) : (Drv.next (.clkLo k)).shifted = (Drv.clkLo k).shifted := by
  obtain ⟨j, hj, hnext⟩ | ⟨rfl, hnext⟩ := next_clkLo_cases k
  · simp only [hnext, Drv.shifted]; omega
  · rw [hnext]; rfl

/-- BUSY, the clock, the latch and FRAME's having a value follow DRV (10_state.md R25, R28, R36, R37). -/
structure FollowsDrv (s : State) : Prop where
  busy_iff : s.busy = true ↔ s.drv ≠ .idle
  clk_iff : s.serClk = true ↔ ∃ k, s.drv = .clkLo k
  latch_iff : s.serLatch = true ↔ s.drv = .idle ∨ s.drv = .start
  frame_iff : s.frame.isSome = true ↔ s.drv ≠ .idle ∧ s.drv ≠ .start

theorem Coherent.followsDrv {s : State} (hs : Coherent s) : FollowsDrv s := { hs with }

theorem FollowsDrv.of_driverStep {s t : State} (hs : FollowsDrv s) (h : driverStep s = .next t) : FollowsDrv t := by
  obtain ⟨w, hdrv, -, rfl⟩ | ⟨k, f, hdrv, -, rfl⟩ | ⟨k, hdrv, rfl⟩ | ⟨k, hdrv, rfl⟩ | ⟨hdrv, rfl⟩ := driverStep_next h
  case inr.inr.inr.inl =>
    obtain ⟨j, -, hnext⟩ | ⟨-, hnext⟩ := next_clkLo_cases k
    all_goals constructor <;> simp [hs.busy_iff, hs.latch_iff, hs.frame_iff, hdrv, hnext]
  all_goals constructor <;> simp [hs.busy_iff, hs.clk_iff, hs.latch_iff, hs.frame_iff, hdrv]

/-- From the Start step to the Commit step FRAME holds STATE (10_state.md R25, 41_serial_driver.md R121). -/
theorem Coherent.frame_of_active {s : State} (hs : Coherent s) (hidle : s.drv ≠ .idle) (hstart : s.drv ≠ .start) :
    ∃ f, s.frame = some f ∧ s.state = some f := by
  obtain ⟨f, hf⟩ := Option.isSome_iff_exists.mp (hs.frame_iff.mpr ⟨hidle, hstart⟩)
  exact ⟨f, hf, hs.frame_eq f hf⟩

/-- At the Commit step the whole frame is in SR, and its last bit on SER_DATA (10_state.md R35, R42). -/
theorem Coherent.sr_at_commit {s : State} (hs : Coherent s) (hlink : s.linkOk = true) (hdrv : s.drv = .commit) :
    ∃ f, s.state = some f ∧ s.sr = XWord.ofWord f ∧ s.serData = f.getLsbD 0 := by
  obtain ⟨f, hf, hstate⟩ := hs.frame_of_active (by simp [hdrv]) (by simp [hdrv])
  have hshifted : s.drv.shifted = 16 := by rw [hdrv]; rfl
  refine ⟨f, hstate, Vector.ext fun i hi => ?_, hs.data_eq 0 f (by rw [hdrv]; rfl) hf⟩
  have hbit := hs.sr_prefix hlink f ⟨i, hi⟩ hf (by rw [hshifted]; exact hi)
  simpa [hshifted, hi] using hbit

theorem Coherent.latch_low_at_commit {s : State} (hs : Coherent s) (hdrv : s.drv = .commit) : s.serLatch = false := by
  simpa using mt hs.latch_iff.mp (by simp [hdrv])

/-- The Commit step ends the history with the frame that it copies to OUT (10_state.md R43). -/
theorem Coherent.commit_step {s t : State} (hs : Coherent s) (hturn : DriverTurn s) (hlink : s.linkOk = true)
    (hdrv : s.drv = .commit) (h : driverStep s = .next t) : ∃ f, s.state = some f ∧ t.out = XWord.ofWord f ∧
      t.serData = f.getLsbD 0 ∧ t.events = s.events ++ [.line .serLatch true, .commit (XWord.ofWord f)] := by
  obtain ⟨f, hstate, hsr, hdata⟩ := hs.sr_at_commit hlink hdrv
  have hcommit := step_commit hturn hdrv
  rw [step_driver hturn, h, driveLatch_rising hlink (hs.latch_low_at_commit hdrv), hsr,
    Host.Outcome.next.injEq] at hcommit
  subst hcommit
  exact ⟨f, hstate, rfl, hdata, rfl⟩

/-- Over any link the Commit step ends the write and its history with a commit. -/
theorem Coherent.commit_step_any {s t : State} (hs : Coherent s) (hturn : DriverTurn s)
    (hdrv : s.drv = .commit) (h : driverStep s = .next t) :
    t.drv = .idle ∧ t.frame = none ∧ commitsOf t.events ≠ [] := by
  have hcommit := step_commit hturn hdrv
  rw [step_driver hturn, h, Host.Outcome.next.injEq] at hcommit
  subst hcommit
  exact ⟨rfl, rfl, by simp [hs.latch_low_at_commit hdrv]⟩

/-- A driver step other than Commit leaves the data line with the bit last presented, and nothing presented only if
nothing was. -/
theorem driverStep_data {s t : State} (hs : Coherent s) (hdrv : s.drv ≠ .commit) (h : driverStep s = .next t) :
    (∀ k f, t.drv.presented = some k → t.frame = some f → t.serData = f.getLsbD k.val) ∧
    (t.drv.presented = none → s.drv.presented = none ∧ t.serData = s.serData) := by
  obtain ⟨w, hd, -, rfl⟩ | ⟨k, f, hd, hf, rfl⟩ | ⟨k, hd, rfl⟩ | ⟨k, hd, rfl⟩ | ⟨hd, rfl⟩ := driverStep_next h
  case inl => exact ⟨nofun, fun _ => ⟨by rw [hd]; rfl, rfl⟩⟩
  case inr.inl =>
    refine ⟨fun j f' hj hf' => ?_, nofun⟩
    obtain rfl : k = j := Option.some.inj hj
    obtain rfl : f = f' := Option.some.inj (hf.symm.trans hf')
    rfl
  case inr.inr.inl =>
    refine ⟨fun j f hj hf => hs.data_eq j f ?_ hf, nofun⟩
    rw [hd]; exact hj
  case inr.inr.inr.inl =>
    refine ⟨fun j f hj hf => hs.data_eq j f ?_ hf, fun hnone => ?_⟩
    · rw [presented_next_clkLo] at hj
      rw [hd]; exact hj
    · simp [presented_next_clkLo] at hnone
  case inr.inr.inr.inr => exact absurd hd hdrv

/-- Shifting in bit `15 - n` of a frame whose `n` bits above are in the receiver leaves `n + 1` there (10_state.md
R42). -/
theorem shiftIn_holds_frame {x : XWord} {d : Bool} {f : Word} {n : Nat} (hn : n < 16) (hd : d = f.getLsbD (15 - n))
    (hx : ∀ i : Fin 16, i.val < n → x[i] = some (f.getLsbD (16 - n + i.val))) (i : Fin 16) (hi : i.val < n + 1) :
    (x.shiftIn d)[i] = some (f.getLsbD (16 - (n + 1) + i.val)) := by
  obtain ⟨i | i, hlt⟩ := i
  · rw [Fin.getElem_fin, XWord.shiftIn_zero, hd]
    congr 2
    simp only
    omega
  · rw [Fin.getElem_fin, XWord.shiftIn_succ]
    refine (hx ⟨i, by omega⟩ (Nat.lt_of_succ_lt_succ hi)).trans ?_
    congr 2
    simp only
    omega

/-- A driver step other than Commit keeps the shifted part of SR the frame's: a rising clock edge shifts in the bit
presented (10_state.md R41, R42). -/
theorem driverStep_sr_of_frame {s t : State} (hs : Coherent s) (hlink : s.linkOk = true) (hdrv : s.drv ≠ .commit)
    (h : driverStep s = .next t) (f : Word) (i : Fin 16) (hf : t.frame = some f) (hi : i.val < t.drv.shifted) :
    t.sr[i] = some (f.getLsbD (16 - t.drv.shifted + i.val)) := by
  have hold := fun i => hs.sr_prefix hlink f i
  obtain ⟨w, hd, -, rfl⟩ | ⟨k, f', hd, -, rfl⟩ | ⟨k, hd, rfl⟩ | ⟨k, hd, rfl⟩ | ⟨hd, rfl⟩ := driverStep_next h
  all_goals rw [hd] at hold
  case inl => exact absurd hi (Nat.not_lt_zero _)
  case inr.inl =>
    rw [driveData_ideal hlink]
    exact hold i hf hi
  case inr.inr.inl =>
    have hlow : s.serClk = false := by simpa using mt hs.clk_iff.mp (by simp [hd])
    have hbit : s.serData = f.getLsbD (15 - (15 - k.val)) := by
      rw [show 15 - (15 - k.val) = k.val by omega]
      exact hs.data_eq k f (by rw [hd]; rfl) hf
    have hcount : (Drv.clkLo k).shifted = 15 - k.val + 1 := by simp only [Drv.shifted]; omega
    simp only [hcount] at hi ⊢
    rw [driveClk_rising hlink hlow]
    exact shiftIn_holds_frame (by omega) hbit (fun j => hold j hf) i hi
  case inr.inr.inr.inl =>
    rw [shifted_next_clkLo] at hi ⊢
    rw [driveClk_falling hlink]
    exact hold i hf hi
  case inr.inr.inr.inr => exact absurd hd hdrv

/-- The Start step takes the frame from STATE, and no other step changes either to another value. -/
theorem driverStep_frame_eq {s t : State} (hs : Coherent s) (h : driverStep s = .next t) (f : Word)
    (hf : t.frame = some f) : t.state = some f := by
  obtain ⟨w, -, hw, rfl⟩ | ⟨k, f', -, -, rfl⟩ | ⟨k, -, rfl⟩ | ⟨k, -, rfl⟩ | ⟨-, rfl⟩ := driverStep_next h
  case inl => exact hw.trans hf
  case inr.inr.inr.inr => simp at hf
  all_goals exact hs.frame_eq f hf

theorem Coherent.of_driverStep_unless_commit {s t : State} (hs : Coherent s) (hturn : DriverTurn s)
    (hdrv : s.drv ≠ .commit) (h : driverStep s = .next t) : Coherent t := by
  have hframe := driverStep_frame h
  have hlinked (hlink : t.linkOk = true) : LinkOk s := hframe.linkOk.symm.trans hlink
  have hcommits := driverStep_commitsOf hdrv h
  obtain ⟨hdata, hquiet⟩ := driverStep_data hs hdrv h
  exact
    { hs.followsDrv.of_driverStep h with
      cause_eq := by rw [hframe.cfgCause, hframe.cfg]; exact hs.cause_eq
      halted_iff := by rw [hframe.halted, hframe.cfg]; exact hs.halted_iff
      halted_lines := by simp [hframe.halted, hturn.notHalted]
      state_iff := by rw [hframe.state, hframe.halted]; exact hs.state_iff
      frame_eq := driverStep_frame_eq hs h
      data_eq := hdata
      data_rest := fun hlink hnone => by
        obtain ⟨hrest, hsame⟩ := hquiet hnone
        rw [hcommits, hsame]
        exact hs.data_rest (hlinked hlink) hrest
      data_reset := fun hnone => by
        obtain ⟨hrest, hsame⟩ := hquiet hnone
        rw [hcommits, hsame]
        exact hs.data_reset hrest
      sr_prefix := fun hlink => driverStep_sr_of_frame hs (hlinked hlink) hdrv h
      out_last := fun hlink => by
        rw [hcommits, driverStep_out hturn (hlinked hlink) hdrv h]
        exact hs.out_last (hlinked hlink)
      first_commit := by rw [hframe.linkOk, hcommits, hframe.cfg]; exact hs.first_commit
      before_commit := fun hhalted hnone => by
        obtain ⟨es, hevents, haccepts⟩ := hframe.events
        obtain ⟨hbusy, hstate, htaken, hout⟩ := hs.before_commit hturn.notHalted (hcommits ▸ hnone)
        refine ⟨(driverStep_busy h hdrv).trans hbusy, ?_, by simp [hevents, htaken, haccepts], fun hlink => ?_⟩
        · rw [hframe.state, hframe.cfg, hstate]
        · exact (driverStep_out hturn (hlinked hlink) hdrv h).trans (hout (hlinked hlink)) }

/-- The Commit step ends the write: OUT is the frame, which is STATE, and before the first commit STATE is DEFAULT. -/
theorem Coherent.of_commitStep {s t : State} (hs : Coherent s) (hturn : DriverTurn s)
    (hdrv : s.drv = .commit) (h : driverStep s = .next t) : Coherent t := by
  have hframe := driverStep_frame h
  have hlinked (hlink : t.linkOk = true) : LinkOk s := hframe.linkOk.symm.trans hlink
  obtain ⟨hidle, hnoFrame, hsome⟩ := hs.commit_step_any hturn hdrv h
  have hcommits (hlink : s.linkOk = true) : ∃ f, s.state = some f ∧ t.out = XWord.ofWord f ∧
      t.serData = f.getLsbD 0 ∧ commitsOf t.events = commitsOf s.events ++ [XWord.ofWord f] := by
    obtain ⟨f, hstate, hout, hdata, hevents⟩ := hs.commit_step hturn hlink hdrv h
    exact ⟨f, hstate, hout, hdata, by simp [hevents]⟩
  exact
    { hs.followsDrv.of_driverStep h with
      cause_eq := by rw [hframe.cfgCause, hframe.cfg]; exact hs.cause_eq
      halted_iff := by rw [hframe.halted, hframe.cfg]; exact hs.halted_iff
      halted_lines := by simp [hframe.halted, hturn.notHalted]
      state_iff := by rw [hframe.state, hframe.halted]; exact hs.state_iff
      frame_eq := by simp [hnoFrame]
      data_eq := by simp [hnoFrame]
      data_rest := fun hlink _ v hv => by
        obtain ⟨f, -, -, hdata, hcommit⟩ := hcommits (hlinked hlink)
        obtain rfl : XWord.ofWord f = v := by simpa [hcommit] using hv
        rw [XWord.ofWord_get, hdata, BitVec.getLsbD_eq_getElem]
      data_reset := fun _ hnone => absurd hnone hsome
      sr_prefix := by simp [hnoFrame]
      out_last := fun hlink v hv => by
        obtain ⟨f, -, hout, -, hcommit⟩ := hcommits (hlinked hlink)
        obtain rfl : XWord.ofWord f = v := by simpa [hcommit] using hv
        exact hout
      first_commit := fun hlink v hv => by
        obtain ⟨f, hstate, -, -, hcommit⟩ := hcommits (hlinked hlink)
        rw [hcommit] at hv
        rw [hframe.cfg]
        cases hold : commitsOf s.events with
        | nil =>
          obtain rfl : XWord.ofWord f = v := by simpa [hold] using hv
          obtain ⟨-, hdflt, -⟩ := hs.before_commit hturn.notHalted hold
          rw [Option.some.inj (hstate.symm.trans hdflt)]
        | cons u us =>
          exact hs.first_commit (hlinked hlink) v (by simpa [hold] using hv)
      before_commit := fun _ hnone => absurd hnone hsome }

/-- Settles O43: a reset starts the invariant anew, and each agent's step keeps it; the step of an illegal word leaves
the mark, under which nothing is claimed. -/
theorem everyStepKeepsTheRunInvariant : Obligations.EveryStepKeepsTheRunInvariant := by
  intro s t hs h hrefused
  cases hpin : s.resetPin with
  | true =>
    obtain rfl := step_next_of_reset hpin h
    exact resetBlock_coherent s
  | false =>
    obtain ⟨hturn, hdriver⟩ | ⟨hturn, rfl⟩ | ⟨hturn, w, rest, i, -, -, hexec⟩ := step_next_unrefused hpin h hrefused
    · have hcoherent := hs hturn.notRefused
      by_cases hdrv : s.drv = .commit
      · exact hcoherent.of_commitStep hturn hdrv hdriver
      · exact hcoherent.of_driverStep_unless_commit hturn hdrv hdriver
    · exact (hs hturn.notRefused).of_poll
    · exact (hs hturn.notRefused).of_command hturn hexec

end Sys2Proof.Machine

/-! PROOFS. What follows from the invariant of block and receiver: the lag of the outputs behind STATE (20_memory.md
R63), and that nothing stops a run (60_exceptions.md section 3, 70_reset_and_hazards.md R207). -/

namespace Sys2Proof.Machine

/-! The events since the last commit. -/

theorem commitValue_eq_none_of_no_commit {es : List Event} (h : commitsOf es = []) :
    ∀ e ∈ es, e.commitValue.isNone = true := by
  intro e he
  rw [List.filterMap_eq_nil_iff.mp h e he]
  rfl

theorem sinceCommit_append {es fs : List Event} (hfs : commitsOf fs = []) :
    sinceCommit (es ++ fs) = sinceCommit es ++ fs := by
  have hpast : ∀ e ∈ fs.reverse, e.commitValue.isNone = true := fun e he =>
    commitValue_eq_none_of_no_commit hfs e (List.mem_reverse.mp he)
  rw [sinceCommit, List.reverse_append, List.takeWhile_append_of_pos hpast, List.reverse_append, List.reverse_reverse,
    sinceCommit]

theorem sinceCommit_commit (es : List Event) (v : XWord) : sinceCommit (es ++ [.commit v]) = [] := by
  simp [sinceCommit, Event.commitValue]

/-- The groups toggled since the last commit, after events that do not commit. -/
theorem togglesOf_sinceCommit_append (c : BlockConfig) {es fs : List Event} (hfs : commitsOf fs = []) :
    togglesOf c (sinceCommit (es ++ fs)) = togglesOf c (sinceCommit es) ++ togglesOf c fs := by
  rw [sinceCommit_append hfs, togglesOf_append]

/-! The lag of the outputs. -/

/-- What changes neither OUT nor STATE, and adds to the history neither a commit nor a TOGGLE, keeps the lag. -/
theorem OutputLagsByPendingToggles.of_same {s t : State} {es : List Event} (hs : OutputLagsByPendingToggles s)
    (hcfg : t.cfg = s.cfg) (hstate : t.state = s.state) (hrefused : t.refused = s.refused)
    (hlink : t.linkOk = s.linkOk) (hout : LinkOk s → t.out = s.out) (hevents : t.events = s.events ++ es)
    (hcommits : commitsOf es = []) (htoggles : togglesOf s.cfg es = []) : OutputLagsByPendingToggles t := by
  intro hnone hlinked hsome
  have hlinkeds : LinkOk s := hlink.symm.trans hlinked
  rw [hevents, commitsOf_append, hcommits, List.append_nil] at hsome
  rw [hout hlinkeds, hstate, hcfg, hevents, togglesOf_sinceCommit_append _ hcommits, htoggles, List.append_nil]
  exact hs (hrefused.symm.trans hnone) hlinkeds hsome

/-- A reset restarts the history, so that nothing is claimed before the next commit. -/
theorem resetBlock_outputLags (s : State) : OutputLagsByPendingToggles (resetBlock s) := by
  have hnone : commitsOf (resetBlock s).events = [] := by
    by_cases hvalid : cfgCheck s.cfg.groups = 0#3
    · simp [resetBlock_valid hvalid]
    · simp [resetBlock_invalid hvalid]
  exact fun _ _ hsome => absurd hnone hsome

/-- The Commit step leaves OUT equal to STATE and no event after its commit. -/
theorem outputLags_of_commitStep {s t : State} (hs : Coherent s) (hturn : DriverTurn s) (hdrv : s.drv = .commit)
    (h : driverStep s = .next t) : OutputLagsByPendingToggles t := by
  intro _ hlink _
  have hframe := driverStep_frame h
  obtain ⟨f, hstate, hout, -, hevents⟩ := hs.commit_step hturn (hframe.linkOk.symm.trans hlink) hdrv h
  refine ⟨f, f, hout, hframe.state.trans hstate, ?_⟩
  have hsplit : t.events = s.events ++ [.line .serLatch true] ++ [.commit (XWord.ofWord f)] := by simp [hevents]
  rw [hsplit, sinceCommit_commit, togglesOf_nil, xorMasks_nil, BitVec.xor_self]

theorem OutputLagsByPendingToggles.of_driverStep {s t : State} (hs : OutputLagsByPendingToggles s)
    (hturn : DriverTurn s) (hdrv : s.drv ≠ .commit) (h : driverStep s = .next t) : OutputLagsByPendingToggles t := by
  have hframe := driverStep_frame h
  obtain ⟨es, hevents, haccepts⟩ := hframe.events
  have hcommits := driverStep_commitsOf hdrv h
  rw [hevents, commitsOf_append, List.append_right_eq_self] at hcommits
  exact hs.of_same hframe.cfg hframe.state hframe.refused hframe.linkOk
    (fun hlink => driverStep_out hturn hlink hdrv h) hevents hcommits (togglesOf_eq_nil_of_no_accept haccepts)

/-- A TOGGLE adds its mask to STATE and its group to the history, any other command neither. -/
theorem OutputLagsByPendingToggles.of_command {s t : State} {w : Command} {rest : List Command} {i : Instr}
    (hs : OutputLagsByPendingToggles s) (hdecode : decode s.cfg.nGroups w = .legal i)
    (h : exec i (s.accept w rest) = .next t) : OutputLagsByPendingToggles t := by
  have hother (hi : ∀ g, i ≠ .toggle g) : togglesOf s.cfg [.accept w] = [] := togglesOf_accept_other hdecode hi
  obtain ⟨rfl, rfl⟩ | ⟨g, m, v, rfl, hmask, hstate, rfl⟩ | ⟨rfl, rfl⟩ | ⟨v, rfl, -, rfl⟩ := exec_next h
  · exact hs.of_same rfl rfl rfl rfl (fun _ => rfl) rfl rfl (hother nofun)
  · intro hrefused hlink hsome
    have hold : commitsOf s.events ≠ [] := by simpa using hsome
    obtain ⟨o, u, hout, hu, hlag⟩ := hs hrefused hlink hold
    obtain rfl : u = v := Option.some.inj (hu.symm.trans hstate)
    refine ⟨o, u ^^^ m, hout, rfl, ?_⟩
    simp only [accept_cfg, accept_events] at hmask ⊢
    rw [togglesOf_sinceCommit_append _ (commitsOf_accept w), togglesOf_accept_toggle hdecode, xorMasks_concat,
      maskOrZero_of_groupMask hmask, ← hlag, BitVec.xor_assoc]
  · exact hs.of_same rfl rfl rfl rfl (fun _ => rfl) rfl rfl (hother nofun)
  · refine hs.of_same (es := [.accept w, .read v]) rfl rfl rfl rfl (fun _ => rfl) (by simp) rfl ?_
    rw [← List.singleton_append, togglesOf_append, hother nofun]
    rfl

/-- Settles O46. Of the steps without reset and refusal a TOGGLE moves STATE and the pending groups together, and the
Commit step, by the invariant, copies STATE to OUT; the others touch neither. -/
theorem everyStepKeepsTheOutputLag : Obligations.EveryStepKeepsTheOutputLag := by
  refine ⟨reset_eq_powerOn ▸ resetBlock_outputLags _, fun s t hinv hs h => ?step⟩
  case step =>
    by_cases ht : t.refused = none
    case neg => exact fun hnone => absurd hnone ht
    cases hpin : s.resetPin with
    | true =>
      obtain rfl := step_next_of_reset hpin h
      exact resetBlock_outputLags s
    | false =>
      obtain ⟨hturn, hdriver⟩ | ⟨-, rfl⟩ | ⟨-, w, rest, i, -, hdecode, hexec⟩ := step_next_unrefused hpin h ht
      · by_cases hdrv : s.drv = .commit
        · exact outputLags_of_commitStep (hinv hturn.notRefused) hturn hdrv hdriver
        · exact hs.of_driverStep hturn hdrv hdriver
      · exact hs
      · exact hs.of_command hdecode hexec

/-! Nothing stops a run. -/

/-- With FRAME and STATE where DRV needs them, the driver's step answers. -/
theorem Coherent.driver_answers {s : State} (hs : Coherent s) (hturn : DriverTurn s) : ∃ t, step s = .next t := by
  obtain ⟨w, hw⟩ := Option.isSome_iff_exists.mp (hs.state_iff.mpr hturn.notHalted)
  have hwriting : Writing w s := ⟨hturn, fun _ => hw, fun hstart => by
    obtain ⟨f, hf, hstate⟩ := hs.frame_of_active hturn.active hstart
    rw [hf, ← hstate, hw]⟩
  exact hwriting.step_answers

/-- With a value in STATE the host's step answers: it polls, or executes a well-formed command, or refuses. -/
theorem host_answers {s : State} (hturn : HostTurn s) (hstate : s.state ≠ none) : ∃ t, step s = .next t := by
  cases hcmds : s.cmds with
  | nil => exact ⟨_, step_poll hturn hcmds⟩
  | cons w rest =>
    cases hdecode : decode s.cfg.nGroups w with
    | legal i =>
      rw [step_host_legal hturn hcmds hdecode]
      exact exec_answers_of_wellFormed (decode_legal_fields hdecode).2 hstate
    | illegal why v =>
      obtain rfl := decode_illegal_word hdecode
      exact ⟨_, step_illegal hturn hcmds hdecode⟩

/-- Settles O49. BUSY follows DRV, so that one of the two agents has the turn. -/
theorem everyRunningStepAnswers : Obligations.EveryRunningStepAnswers := by
  refine ⟨fun s hinv hrun => ?running, fun s hpin => ⟨_, step_reset hpin⟩⟩
  case running =>
    have hs := hinv hrun.notRefused
    by_cases hdrv : s.drv = .idle
    · have hbusy : s.busy = false := by simpa using mt hs.busy_iff.mp (not_not_intro hdrv)
      have hstate := hs.state_iff.mpr hrun.notHalted
      exact host_answers ⟨hrun, hdrv, hbusy⟩ (Option.isSome_iff_ne_none.mp hstate)
    · exact hs.driver_answers ⟨hrun, hdrv⟩

end Sys2Proof.Machine

/-! PROOFS. The control loop (42_control_loop.md): one SERVICE, one iteration, and the frame trace of a run from
power-on. -/

namespace Sys2Proof.Machine

/-- The host has the turn over an ideal link with the lines between writes, and STATE holds `w`. -/
structure Resting (s : State) (w : Word) : Prop extends HostTurn s where
  link : LinkOk s
  clkLow : s.serClk = false
  latchHigh : s.serLatch = true
  word : s.state = some w

/-- Nothing waits for a commit: STATE and OUT are both `w`. -/
structure Settled (s : State) (w : Word) : Prop extends Resting s w where
  out : s.out = XWord.ofWord w

/-- A run from `s` to `t` has committed the frames `fs`, and neither the configuration nor RDATA has changed. -/
structure Committed (s t : State) (fs : List Word) : Prop where
  cfg : t.cfg = s.cfg
  rdata : t.rdata = s.rdata
  trace : commitsOf t.events = commitsOf s.events ++ fs.map XWord.ofWord

theorem Committed.refl (s : State) : Committed s s [] := ⟨rfl, rfl, by simp⟩

theorem Committed.trans {s t u : State} {fs gs : List Word} (hst : Committed s t fs) (htu : Committed t u gs) :
    Committed s u (fs ++ gs) :=
  ⟨htu.cfg.trans hst.cfg, htu.rdata.trans hst.rdata, by simp [htu.trace, hst.trace]⟩

/-! One SERVICE (42_control_loop.md R151). -/

theorem step_toggle {s : State} {g : Nat} {m w : Word} {rest : List Command} (hturn : HostTurn s)
    (hcmds : s.cmds = (0x40#8 ||| BitVec.ofNat 8 g) :: rest) (hfits : g < 8) (hm : groupMask s.cfg g = some m)
    (hw : s.state = some w) :
    step s = .next { s.accept (0x40#8 ||| BitVec.ofNat 8 g) rest with state := some (w ^^^ m) } := by
  obtain ⟨b, hb, -⟩ := groupMask_eq_some_iff.mp hm
  have hconfigured : g < s.cfg.nGroups := (List.getElem?_eq_some_iff.mp hb).1
  rw [step_host_legal hturn hcmds (decode_toggle_word hfits hconfigured)]
  exact exec_toggle (s := s.accept _ rest) hm hw

/-- A WRITE and its 50 driver steps. -/
theorem runs_write {s : State} {w : Word} {rest : List Command} (hs : Resting s w) (hcmds : s.cmds = 0x80#8 :: rest) :
    ∃ t, runs 51 s = .next t ∧ Settled t w ∧ t.cmds = rest ∧ t.edges = s.edges ∧ Committed s t [w] := by
  obtain ⟨t, hruns, ht, -, -, htrace⟩ :=
    writeRefinesItsAtomicStep s w rest hs.toHostTurn hs.link hs.clkLow hs.latchHigh hcmds hs.word
  refine ⟨t, hruns, ?_⟩
  subst ht
  exact ⟨⟨⟨⟨⟨hs.noReset, hs.notRefused, hs.notHalted⟩, hs.idle, rfl⟩, hs.link, rfl, rfl, hs.word⟩, rfl⟩, rfl, rfl,
    rfl, rfl, htrace⟩

/-- TOGGLE g, then WRITE: 52 steps. -/
theorem runs_service {s : State} {g : Nat} {m w : Word} {rest : List Command} (hs : Resting s w)
    (hcmds : s.cmds = (0x40#8 ||| BitVec.ofNat 8 g) :: 0x80#8 :: rest) (hfits : g < 8)
    (hm : groupMask s.cfg g = some m) :
    ∃ t, runs 52 s = .next t ∧ Settled t (w ^^^ m) ∧ t.cmds = rest ∧ t.edges = s.edges ∧
      Committed s t [w ^^^ m] := by
  have htoggle := step_toggle hs.toHostTurn hcmds hfits hm hs.word
  obtain ⟨t, hruns, hsettled, hrest, hedges, hcommitted⟩ := runs_write (rest := rest) (w := w ^^^ m)
    (s := { s.accept (0x40#8 ||| BitVec.ofNat 8 g) (0x80#8 :: rest) with state := some (w ^^^ m) })
    ⟨⟨⟨hs.noReset, hs.notRefused, hs.notHalted⟩, hs.idle, hs.notBusy⟩, hs.link, hs.clkLow, hs.latchHigh, rfl⟩ rfl
  exact ⟨t, (runs_succ 51 htoggle).trans hruns, hsettled, hrest, hedges, hcommitted.cfg, hcommitted.rdata,
    by simpa using hcommitted.trace⟩

/-- Settles O47. -/
theorem serviceTogglesAndCommits : Obligations.ServiceTogglesAndCommits := by
  intro s w g m rest hturn hlink hclk hlatch hcmds hfits hm hw
  obtain ⟨t, hruns, hsettled, hrest, -, hcommitted⟩ := runs_service ⟨hturn, hlink, hclk, hlatch, hw⟩ hcmds hfits hm
  exact ⟨t, hruns, hsettled.toHostTurn, hrest, hsettled.word, hsettled.out, hcommitted.rdata, hcommitted.trace⟩

/-! The services of one iteration (42_control_loop.md R154). -/

theorem serviceCommands_word {g : Nat} (hfits : g < 8) :
    serviceCommands g = [0x40#8 ||| BitVec.ofNat 8 g, 0x80#8] := by
  rw [serviceCommands, encode_toggle_word g hfits]
  rfl

/-- The last frame of two stretches of a run is that of the second, or, if it has none, of the first. -/
theorem getLastD_append_frames (fs gs : List Word) (w : Word) :
    (fs ++ gs).getLastD w = gs.getLastD (fs.getLastD w) := by
  rw [List.getLastD_eq_getLast?, List.getLastD_eq_getLast?, List.getLastD_eq_getLast?, List.getLast?_append]
  cases gs.getLast? <;> rfl

theorem runs_services {gs : List Nat} {s : State} {w : Word} (hs : Settled s w) (hfits : s.cfg.nGroups ≤ 8)
    (hgs : ∀ g ∈ gs, g < s.cfg.nGroups) (hcmds : s.cmds = gs.flatMap serviceCommands) :
    ∃ k t, runs k s = .next t ∧ Settled t ((serveFrames s.cfg w gs).getLastD w) ∧ t.cmds = [] ∧
      t.edges = s.edges ∧ Committed s t (serveFrames s.cfg w gs) := by
  induction gs generalizing s w with
  | nil => exact ⟨0, s, runs_zero s, hs, hcmds, rfl, .refl s⟩
  | cons g gs ih =>
    obtain ⟨hg, hgs⟩ := List.forall_mem_cons.mp hgs
    obtain ⟨m, hm⟩ := groupMask_isSome_of_lt hg
    have hg8 : g < 8 := by omega
    rw [List.flatMap_cons, serviceCommands_word hg8] at hcmds
    obtain ⟨u, hfirst, hu, hucmds, huedges, hcommitted⟩ := runs_service hs.toResting hcmds hg8 hm
    have hcfg := hcommitted.cfg
    obtain ⟨k, t, hruns, ht, htcmds, htedges, hmore⟩ := ih hu (hcfg ▸ hfits) (hcfg ▸ hgs) hucmds
    rw [hcfg] at ht hmore
    refine ⟨52 + k, t, (runs_add 52 k hfirst).trans hruns, ?_, htcmds, htedges.trans huedges, ?_⟩
    · rwa [serveFrames, maskOrZero_of_groupMask hm, List.getLastD_cons]
    · rw [serveFrames, maskOrZero_of_groupMask hm]
      exact hcommitted.trans hmore

/-! The iterations of a run (42_control_loop.md R158). -/

theorem runs_iterations {es : List (List Nat)} {s : State} {w : Word} (hs : Settled s w) (hfits : s.cfg.nGroups ≤ 8)
    (hsources : ∀ g ∈ s.cfg.srcOrder, g < s.cfg.nGroups) (hcmds : s.cmds = []) (hedges : s.edges = es) :
    ∃ k t, runs k s = .next t ∧ Settled t ((framesOf s.cfg w es).getLastD w) ∧ t.cmds = [] ∧ t.edges = [] ∧
      Committed s t (framesOf s.cfg w es) := by
  induction es generalizing s w with
  | nil => exact ⟨0, s, runs_zero s, hs, hcmds, hedges, .refl s⟩
  | cons e es ih =>
    have hpoll := step_poll hs.toHostTurn hcmds
    have hnone : Committed s (pollSources s) [] := ⟨rfl, rfl, by simp⟩
    have hpolled : (pollSources s).cmds = (s.cfg.srcOrder.filter fun g => e.contains g).flatMap serviceCommands := by
      rw [pollSources_cmds, hedges]
      rfl
    obtain ⟨j, u, hserved, hu, hucmds, huedges, hcommitted⟩ := runs_services (s := pollSources s) { hs with } hfits
      (fun g hg => hsources g (List.mem_of_mem_filter hg)) hpolled
    have hcfg : u.cfg = s.cfg := hcommitted.cfg
    have hleft : u.edges = es := by rw [huedges, pollSources_edges, hedges, List.tail_cons]
    obtain ⟨k, t, hruns, ht, htcmds, htedges, hmore⟩ := ih hu (hcfg ▸ hfits) (hcfg ▸ hsources) hucmds hleft
    rw [hcfg] at ht hmore
    have hrun : runs (j + k + 1) s = .next t := (runs_succ _ hpoll).trans ((runs_add j k hserved).trans hruns)
    refine ⟨j + k + 1, t, hrun, ?_, htcmds, htedges, ?_⟩
    · rwa [framesOf, getLastD_append_frames]
    · rw [framesOf]
      exact (hnone.trans hcommitted).trans hmore

/-- The initial write settles STATE and OUT at DEFAULT (70_reset_and_hazards.md R191). -/
theorem runs_initialWrite {s : State} {w : Word} (hstart : WriteStarts s w) (hlink : LinkOk s) :
    ∃ t, runs 50 s = .next t ∧ Settled t w ∧ t.cmds = s.cmds ∧ t.edges = s.edges ∧ Committed s t [w] := by
  refine ⟨_, writeSendsAndLatchesTheFrame s w hstart hlink, ?_, rfl, rfl, rfl, rfl, ?_⟩
  · exact ⟨⟨⟨⟨hstart.noReset, hstart.notRefused, hstart.notHalted⟩, rfl, rfl⟩, hlink, rfl, rfl, hstart.word⟩, rfl⟩
  · simp [commitsOf_writeTrace]

theorem powerOn_writeStarts {c : BlockConfig} (hvalid : cfgCheck c.groups = 0#3) : WriteStarts (powerOn c) c.dflt :=
  writeStarts_of_reset rfl hvalid

theorem powerOn_cfg (c : BlockConfig) : (powerOn c).cfg = c := resetBlock_cfg _

theorem powerOn_beforeCommit {c : BlockConfig} (hvalid : cfgCheck c.groups = 0#3) : BeforeCommit [] (powerOn c) := by
  have hheld : BeforeCommit _ (powerOn c) := beforeCommit_of_reset hvalid
  exact hheld

/-- Settles O48: the initial write, then one stretch of services per edge draw. -/
theorem frameTraceOfTheControlLoop : Obligations.FrameTraceOfTheControlLoop := by
  intro c es hvalid hsources
  have hbound : c.nGroups ≤ 5 := (length_bounds_of_cfgCheck hvalid).2
  have hinitial := powerOn_beforeCommit hvalid
  obtain ⟨u, hwrite, hu, hucmds, huedges, hfirst⟩ := runs_initialWrite (w := c.dflt)
    (s := { powerOn c with edges := es, linkOk := true }) { powerOn_writeStarts hvalid with } rfl
  have hcfg : u.cfg = c := hfirst.cfg.trans (powerOn_cfg c)
  obtain ⟨k, t, hruns, ht, htcmds, htedges, hmore⟩ :=
    runs_iterations hu (by rw [hcfg]; omega) (by rw [hcfg]; exact hsources) (hucmds.trans hinitial.cmds) huedges
  rw [hcfg] at ht hmore
  have htrace := (hfirst.trans hmore).trace
  rw [hinitial.commits] at htrace
  exact ⟨50 + k, t, (runs_add 50 k hwrite).trans hruns, ht.toHostTurn, htcmds, htedges, htrace, ht.word, ht.out⟩

end Sys2Proof.Machine

/-! PROOFS. The block has no input from the receiver (41_serial_driver.md R130, 60_exceptions.md R175). -/

namespace Sys2Proof.Machine

/-! The stops of a step that no run reaches (10_state.md R28, R47). -/

theorem step_start_noValue {s : State} (h : DriverTurn s) (hdrv : s.drv = .start) (hw : s.state = none) :
    step s = .fault (.noValue .state) := by
  simp [step_driver h, driverStep, hdrv, driverStart, hw]

theorem step_data_noValue {s : State} {k : Fin 16} (h : DriverTurn s) (hdrv : s.drv = .data k) (hf : s.frame = none) :
    step s = .fault (.noValue .frame) := by
  simp [step_driver h, driverStep, hdrv, driverData, hf]

theorem step_noAgent {s : State} (h : Running s) (hdrv : s.drv = .idle) (hbusy : s.busy = true) :
    step s = .fault .noAgent := by
  simp [step, agentStep, h.noReset, h.notRefused, h.notHalted, hdrv, State.ready, hbusy]

/-! What the block sees of two states that differ in receiver and link. -/

/-- Two outcomes are the same for the block: both a next state, with equal parts of block and host, or the same
stop. -/
inductive SameForBlock :
    Host.Outcome State Fault Refusal → Host.Outcome State Fault Refusal → Prop
  | next {t t' : State} (h : t.blockView = t'.blockView) : SameForBlock (.next t) (.next t')
  | fault (r : Fault) : SameForBlock (.fault r) (.fault r)
  | refused (r : Refusal) : SameForBlock (.refused r) (.refused r)

/-- The state with another receiver behind another link. -/
def State.withReceiver (s : State) (x y : XWord) (l : Bool) : State := { s with sr := x, out := y, linkOk := l }

section otherReceiver

variable (s : State) (x y : XWord) (l : Bool)

/-! The line writes: all that they record of the receiver is the value of a commit. -/

theorem driveData_blockView (b : Bool) :
    (driveData b s).blockView = (driveData b (s.withReceiver x y l)).blockView := rfl

theorem driveClk_blockView (b : Bool) :
    (driveClk b s).blockView = (driveClk b (s.withReceiver x y l)).blockView := rfl

theorem driveLatch_blockView (b : Bool) :
    (driveLatch b s).blockView = (driveLatch b (s.withReceiver x y l)).blockView := by
  have hevents : (driveLatch b s).events.map Event.blockView =
      (driveLatch b (s.withReceiver x y l)).events.map Event.blockView := by
    cases hedge : !s.serLatch && b <;> simp [State.withReceiver, hedge, Event.blockView]
  unfold State.blockView
  rw [hevents]
  rfl

/-! The steps. -/

theorem driverTurn_sameForBlock (h : DriverTurn s) : SameForBlock (step s) (step (s.withReceiver x y l)) := by
  have h' : DriverTurn (s.withReceiver x y l) := ⟨⟨h.noReset, h.notRefused, h.notHalted⟩, h.active⟩
  cases hdrv : s.drv with
  | idle => exact absurd hdrv h.active
  | start =>
    cases hw : s.state with
    | none =>
      rw [step_start_noValue h hdrv hw, step_start_noValue h' hdrv hw]
      exact .fault _
    | some w =>
      rw [step_start h hdrv hw, step_start h' hdrv hw]
      exact .next (congrArg (fun v : State => { v with frame := some w, drv := .data 15 })
        (driveLatch_blockView s x y l false))
  | data k =>
    cases hf : s.frame with
    | none =>
      rw [step_data_noValue h hdrv hf, step_data_noValue h' hdrv hf]
      exact .fault _
    | some f =>
      rw [step_data h hdrv hf, step_data h' hdrv hf]
      exact .next (congrArg (fun v : State => { v with drv := .clkHi k }) (driveData_blockView s x y l _))
  | clkHi k =>
    rw [step_clkHi h hdrv, step_clkHi h' hdrv]
    exact .next (congrArg (fun v : State => { v with drv := .clkLo k }) (driveClk_blockView s x y l true))
  | clkLo k =>
    rw [step_clkLo h hdrv, step_clkLo h' hdrv]
    exact .next (congrArg (fun v : State => { v with drv := Drv.next (.clkLo k) })
      (driveClk_blockView s x y l false))
  | commit =>
    rw [step_commit h hdrv, step_commit h' hdrv]
    exact .next (congrArg (fun v : State => { v with frame := none, busy := false, drv := .idle })
      (driveLatch_blockView s x y l true))

theorem exec_sameForBlock (i : Instr) : SameForBlock (exec i s) (exec i (s.withReceiver x y l)) := by
  cases i with
  | nop => exact .next rfl
  | toggle g =>
    cases hg : s.cfg.groups[g]? with
    | none =>
      rw [exec_toggle_unconfigured hg, exec_toggle_unconfigured (s := s.withReceiver x y l) hg]
      exact .refused _
    | some b =>
      cases hw : s.state with
      | none =>
        rw [exec_toggle_noValue hg hw, exec_toggle_noValue (s := s.withReceiver x y l) hg hw]
        exact .fault _
      | some w =>
        have hm := groupMask_of_group hg
        rw [exec_toggle hm hw, exec_toggle (s := s.withReceiver x y l) hm hw]
        exact .next rfl
  | write => exact .next rfl
  | read =>
    cases hw : s.state with
    | none =>
      rw [exec_read_noValue hw, exec_read_noValue (s := s.withReceiver x y l) hw]
      exact .fault _
    | some w =>
      rw [exec_read hw, exec_read (s := s.withReceiver x y l) hw]
      exact .next rfl

theorem hostTurn_sameForBlock (h : HostTurn s) : SameForBlock (step s) (step (s.withReceiver x y l)) := by
  have h' : HostTurn (s.withReceiver x y l) := ⟨⟨h.noReset, h.notRefused, h.notHalted⟩, h.idle, h.notBusy⟩
  cases hcmds : s.cmds with
  | nil =>
    rw [step_poll h hcmds, step_poll h' hcmds]
    exact .next rfl
  | cons w rest =>
    cases hdecode : decode s.cfg.nGroups w with
    | legal i =>
      rw [step_host_legal h hcmds hdecode, step_host_legal h' hcmds hdecode]
      exact exec_sameForBlock (s.accept w rest) x y l i
    | illegal why v =>
      obtain rfl := decode_illegal_word hdecode
      rw [step_illegal h hcmds hdecode, step_illegal h' hcmds hdecode]
      exact .next rfl

theorem resetBlock_blockView : (resetBlock s).blockView = (resetBlock (s.withReceiver x y l)).blockView := by
  by_cases hvalid : cfgCheck s.cfg.groups = 0#3
  · rw [resetBlock_valid hvalid, resetBlock_valid (s := s.withReceiver x y l) hvalid]
    rfl
  · rw [resetBlock_invalid hvalid, resetBlock_invalid (s := s.withReceiver x y l) hvalid]
    rfl

/-- Which agent has the step is decided by the block alone. -/
theorem step_sameForBlock : SameForBlock (step s) (step (s.withReceiver x y l)) := by
  cases hpin : s.resetPin with
  | true =>
    rw [step_reset hpin, step_reset (s := s.withReceiver x y l) hpin]
    exact .next (resetBlock_blockView s x y l)
  | false =>
    cases hrefused : s.refused with
    | some w =>
      rw [step_of_refused hpin hrefused, step_of_refused (s := s.withReceiver x y l) hpin hrefused]
      exact .refused _
    | none =>
      cases hhalted : s.halted with
      | true =>
        rw [step_of_halted hpin hrefused hhalted, step_of_halted (s := s.withReceiver x y l) hpin hrefused hhalted]
        exact .fault _
      | false =>
        have hrun : Running s := ⟨hpin, hrefused, hhalted⟩
        by_cases hdrv : s.drv = .idle
        · cases hbusy : s.busy with
          | true =>
            rw [step_noAgent hrun hdrv hbusy,
              step_noAgent (s := s.withReceiver x y l) ⟨hpin, hrefused, hhalted⟩ hdrv hbusy]
            exact .fault _
          | false => exact hostTurn_sameForBlock s x y l ⟨hrun, hdrv, hbusy⟩
        · exact driverTurn_sameForBlock s x y l ⟨hrun, hdrv⟩

end otherReceiver

/-- Settles O31: the turn is the same with every receiver and link, and so is what the agent does with it. -/
theorem blockHasNoInputFromTheReceiver : Obligations.BlockHasNoInputFromTheReceiver := by
  intro s x y l
  have hsame := step_sameForBlock s x y l
  rw [State.withReceiver] at hsame
  generalize step s = a at hsame ⊢
  generalize step { s with sr := x, out := y, linkOk := l } = b at hsame ⊢
  cases hsame with
  | next h => exact h
  | fault r => rfl
  | refused r => rfl

end Sys2Proof.Machine

/-! PROOFS. The command assembler (30_encoding.md section 4, R79, R80). -/

namespace Sys2Proof.Machine

/-! Tokens. -/

theorem splitTokens_append {m : List Char} (hm : ∀ c ∈ m, isBlank c = false) (cur cs : List Char) :
    splitTokens cur (m ++ cs) = splitTokens (m.reverse ++ cur) cs := by
  induction m generalizing cur with
  | nil => rfl
  | cons c m ih =>
    obtain ⟨hc, hm⟩ := List.forall_mem_cons.mp hm
    simp [splitTokens, hc, ih hm]

theorem splitTokens_one {m : List Char} (hm : ∀ c ∈ m, isBlank c = false) (hne : m ≠ []) : splitTokens [] m = [m] := by
  have hsplit := splitTokens_append hm [] []
  simpa [splitTokens, hne] using hsplit

theorem splitTokens_two {m a : List Char} (hm : ∀ c ∈ m, isBlank c = false) (hne : m ≠ [])
    (ha : ∀ c ∈ a, isBlank c = false) (hane : a ≠ []) : splitTokens [] (m ++ ' ' :: a) = [m, a] := by
  have hblank : isBlank ' ' = true := by decide
  rw [splitTokens_append hm, splitTokens, if_pos hblank, splitTokens_one ha hane]
  simp [hne]

/-! A rendered command is read back (30_encoding.md R79). -/

/-- The group id of an assembly command is one of the eight that the language can spell. -/
def AsmCommand.gidFits : AsmCommand → Bool
  | .core i => i.gidFits
  | .service g => decide (g < 8)

/-- The digit of a group id reads back as the id, and is neither a blank nor the mark of a comment. -/
theorem digit_of_gid : ∀ g < 8, readGid [Char.ofNat (48 + g)] = some g ∧ isBlank (Char.ofNat (48 + g)) = false ∧
    Char.ofNat (48 + g) ≠ ';' := by
  decide

/-- A mnemonic and the digit of a group id are two tokens. -/
theorem splitTokens_gid {m : List Char} {g : Nat} (hm : ∀ c ∈ m, isBlank c = false) (hne : m ≠ []) (hg : g < 8) :
    splitTokens [] (m ++ [' ', Char.ofNat (48 + g)]) = [m, [Char.ofNat (48 + g)]] := by
  obtain ⟨-, hblank, -⟩ := digit_of_gid g hg
  exact splitTokens_two hm hne (List.forall_mem_singleton.mpr hblank) (List.cons_ne_nil _ _)

theorem readCommand_render {a : AsmCommand} (hfits : a.gidFits = true) :
    readCommand (splitTokens [] a.render) = some (some a) := by
  cases a with
  | service g =>
    have hg : g < 8 := of_decide_eq_true hfits
    obtain ⟨hread, -, -⟩ := digit_of_gid g hg
    have htokens := splitTokens_gid (m := ['S', 'E', 'R', 'V', 'I', 'C', 'E']) (by simp [isBlank]) nofun hg
    exact (congrArg readCommand htokens).trans (by simp [readCommand, hread])
  | core i =>
    cases i with
    | toggle g =>
      have hg : g < 8 := of_decide_eq_true hfits
      obtain ⟨hread, -, -⟩ := digit_of_gid g hg
      have htokens := splitTokens_gid (m := ['T', 'O', 'G', 'G', 'L', 'E']) (by simp [isBlank]) nofun hg
      exact (congrArg readCommand htokens).trans (by simp [readCommand, hread])
    | nop => rfl
    | write => rfl
    | read => rfl

/-! A line is its command, whatever comment follows. -/

theorem render_has_no_comment {a : AsmCommand} (hfits : a.gidFits = true) : ∀ c ∈ a.render, (c != ';') = true := by
  cases a with
  | service g =>
    obtain ⟨-, -, hcomment⟩ := digit_of_gid g (of_decide_eq_true hfits)
    simp [AsmCommand.render, hcomment]
  | core i =>
    cases i with
    | toggle g =>
      obtain ⟨-, -, hcomment⟩ := digit_of_gid g (of_decide_eq_true hfits)
      simp [AsmCommand.render, hcomment]
    | nop => simp [AsmCommand.render]
    | write => simp [AsmCommand.render]
    | read => simp [AsmCommand.render]

/-- What a command assembles to: its words, or nothing when a group id is not configured (30_encoding.md R80). -/
def AsmCommand.words (n : Nat) (a : AsmCommand) : Option (List Command) :=
  if a.expand.all (Instr.wellFormed n) then some (a.expand.map encode) else none

theorem assembleLine_of_takeWhile {n : Nat} {a : AsmCommand} {line : List Char} (hfits : a.gidFits = true)
    (hline : line.takeWhile (· != ';') = a.render) : assembleLine n line = a.words n := by
  rw [assembleLine, hline, readCommand_render hfits]
  rfl

theorem assembleLine_render (n : Nat) {a : AsmCommand} (hfits : a.gidFits = true) :
    assembleLine n a.render = a.words n :=
  assembleLine_of_takeWhile hfits (List.takeWhile_eq_self_iff.mpr (render_has_no_comment hfits))

theorem assembleLine_render_comment (n : Nat) {a : AsmCommand} (hfits : a.gidFits = true) (comment : List Char) :
    assembleLine n (a.render ++ ';' :: comment) = a.words n := by
  refine assembleLine_of_takeWhile hfits ?_
  rw [List.takeWhile_append_of_pos (render_has_no_comment hfits)]
  simp

theorem words_core {n : Nat} {i : Instr} (hwf : i.wellFormed n = true) :
    (AsmCommand.core i).words n = some [encode i] := by
  simp [AsmCommand.words, AsmCommand.expand, hwf]

theorem words_service {n g : Nat} (hg : g < 8) (hconfigured : g < n) :
    (AsmCommand.service g).words n = some [0x40#8 ||| BitVec.ofNat 8 g, 0x80#8] := by
  have hwf : (Instr.toggle g).wellFormed n = true := wellFormed_toggle_iff.mpr ⟨hg, hconfigured⟩
  have hwrite : Instr.write.wellFormed n = true := rfl
  have hcodes : [Instr.toggle g, .write].map encode = serviceCommands g := rfl
  rw [AsmCommand.words, AsmCommand.expand, hcodes, serviceCommands_word hg]
  simp [hwf, hwrite]

/-- Both commands with a group id stand for a TOGGLE of that group. -/
theorem words_unconfigured {n g : Nat} {a : AsmCommand} (htoggle : .toggle g ∈ a.expand) (hunknown : n ≤ g) :
    a.words n = none := by
  have hillFormed : (Instr.toggle g).wellFormed n ≠ true := fun hwf =>
    absurd (wellFormed_toggle_iff.mp hwf).2 (Nat.not_lt.mpr hunknown)
  exact if_neg fun hall => hillFormed (List.all_eq_true.mp hall _ htoggle)

/-- Settles O5: a line reads back as its command, and a command's words are those of the commands it stands for. -/
theorem assemblerEmitsCommandWords : Obligations.AssemblerEmitsCommandWords := by
  refine ⟨fun n i hwf comment => ?core, fun n g hg hconfigured => ?service, fun n g hg hunknown => ?unconfigured⟩
  case core =>
    have hfits : (AsmCommand.core i).gidFits = true := (Bool.and_eq_true_iff.mp hwf).1
    exact ⟨(assembleLine_render n hfits).trans (words_core hwf),
      (assembleLine_render_comment n hfits comment).trans (words_core hwf)⟩
  case service =>
    have hfits : (AsmCommand.service g).gidFits = true := decide_eq_true hg
    exact (assembleLine_render n hfits).trans (words_service hg hconfigured)
  case unconfigured =>
    have htoggle : (AsmCommand.core (.toggle g)).gidFits = true := decide_eq_true hg
    have hservice : (AsmCommand.service g).gidFits = true := decide_eq_true hg
    exact ⟨(assembleLine_render n htoggle).trans (words_unconfigured (List.mem_singleton_self _) hunknown),
      (assembleLine_render n hservice).trans (words_unconfigured List.mem_cons_self hunknown)⟩

end Sys2Proof.Machine
